-- ==== Sys2Proof/Word.lean ====
section
/-! DEFINITION. The part's smallest words: bytes, nibbles and the sets it keeps as bits (R4, R176, R183). -/

namespace Sys2Proof

/-- A byte of the control link or of the lesson flash (R155, R176). -/
abbrev Byte := BitVec 8

/-- A signature nibble, 0..15 (R4). -/
abbrev Nibble := BitVec 4

/-- A set over the 19 attention flags, bit n for flag n (R183, R184). -/
abbrev FlagSet := BitVec 19

/-- A page signature: 16 nibbles, cell 0 at the top left (R4). -/
abbrev Signature := Vector Nibble 16

end Sys2Proof
end

