-- ==== Sys2Proof/Syntax.lean ====
section
/-! DEFINITION. The commands of the part: one constructor of `Instr` for each row of spec/opcode_table.json,
with the row's operands as the spec names them. -/

namespace Sys2Proof

/-! ### Names and values the commands carry -/

/-- The three levels (00_scope.md "Levels"). -/
inductive Level
  | presenter | owner | admin
  deriving DecidableEq, Repr, Inhabited

/-- The reply mode of a telegram (R176). -/
inductive ReplyMode
  | always | errors
  deriving DecidableEq, Repr, Inhabited

/-- One of the three views, which is also the port of the same name (R115). -/
inductive ViewId
  | proj | strm | panel
  deriving DecidableEq, Repr, Inhabited

/-- A coded payload value: one of the named values, or a code that names none of them. -/
inductive Code (α : Type)
  | val (a : α)
  | other
  deriving DecidableEq, Repr, Inhabited

/-- An item that either clears an optional field or puts a value into it (R15, R36). -/
inductive Edit (α : Type)
  | clear
  | put (a : α)
  deriving DecidableEq, Repr, Inhabited

/-- Rotation in degrees (R4). -/
inductive Rotation
  | r0 | r90 | r180 | r270
  deriving DecidableEq, Repr, Inhabited

/-- A page mode (R4, R104). -/
inductive PageMode
  | plain | text | fineLine | photo | chart | invert
  deriving DecidableEq, Repr, Inhabited

/-- The kind of a mark (R4). -/
inductive MarkKind
  | spotlight | cover | outline
  deriving DecidableEq, Repr, Inhabited

/-- A point in sensor pixels (00_scope.md "Sensor coordinates"). -/
structure Point where
  x : Nat
  y : Nat
  deriving DecidableEq, Repr, Inhabited

/-- Four sensor points in the order top left, top right, bottom right, bottom left (R4). -/
structure Corners where
  tl : Point
  tr : Point
  br : Point
  bl : Point
  deriving DecidableEq, Repr, Inhabited

/-- A zoom preset: zoom and pan centre (R4). -/
structure Preset where
  zoom : Nat
  x : Nat
  y : Nat
  deriving DecidableEq, Repr, Inhabited

/-- A page handle as a telegram carries it: index and generation, one byte each (R176). -/
structure PageRef where
  idx : Byte
  gen : Byte
  deriving DecidableEq, Repr, Inhabited

/-- A view set as a telegram carries it, bit v - 1 for view v (R116, R176). -/
abbrev ViewSet := Byte

/-- The target of a command that accepts a record, a group or all pages (R22). -/
inductive Members
  | page (h : PageRef)
  | group (g : Nat)
  | allPages
  deriving DecidableEq, Repr, Inhabited

/-- A placement: a lesson number and a position (R11). -/
structure Placement where
  lesson : Nat
  pos : Nat
  deriving DecidableEq, Repr, Inhabited

/-- The source of a freeze (R54). -/
inductive FreezeSource
  | page | proj
  deriving DecidableEq, Repr, Inhabited

/-- PAGE.SAVE's payload: three optional parts (R12). -/
structure SaveForm where
  presetView : Option Nat
  placement : Option Placement
  freeze : Option (Code FreezeSource)
  deriving DecidableEq, Repr, Inhabited

/-- PAGE.SET's payload: the items it names (R15). -/
structure SetForm where
  label : Option (Edit (List Byte))
  corners : Option (Edit Corners)
  rotation : Option (Code Rotation)
  mirror : Option (Code Bool)
  preset : Option (Edit Preset)
  deriving DecidableEq, Repr, Inhabited

/-- An override write: a set of bands and one value, `none` standing for INHERIT (R16). -/
structure OverrideWrite where
  bands : BitVec 12
  value : Code (Option PageMode)
  deriving DecidableEq, Repr, Inhabited

/-- PAGE.ZONE's payload (R16). -/
structure ZoneForm where
  mode : Option (Code PageMode)
  overrides : Option OverrideWrite
  deriving DecidableEq, Repr, Inhabited

/-- One mark as PAGE.MARKS carries it (R17). -/
structure MarkArg where
  kind : Code MarkKind
  x0 : Nat
  y0 : Nat
  x1 : Nat
  y1 : Nat
  deriving DecidableEq, Repr, Inhabited

/-- PAGE.MARKS's payload (R17). -/
structure MarksForm where
  start : Nat
  count : Nat
  marks : List MarkArg
  deriving DecidableEq, Repr, Inhabited

/-- The signature form of PAGE.SIGN (R19). -/
inductive SignKind
  | given | live | none
  deriving DecidableEq, Repr, Inhabited

/-- PAGE.SIGN's payload (R19). -/
structure SignForm where
  kind : Code SignKind
  nibbles : List Nat
  mask : BitVec 16
  enable : Code Bool
  deriving DecidableEq, Repr, Inhabited

/-- LESSON.OPEN's payload (R35). -/
structure OpenForm where
  label : Option (List Byte)
  lock : Option Nat
  deriving DecidableEq, Repr, Inhabited

/-- LESSON.SET's payload (R36). -/
structure LessonSetForm where
  label : Option (Edit (List Byte))
  lock : Option Nat
  deriving DecidableEq, Repr, Inhabited

/-- A step kind of LESSON.STEP (R43). -/
inductive StepKind
  | next | prev | first | last | position
  deriving DecidableEq, Repr, Inhabited

/-- LESSON.STEP's payload (R43). -/
structure StepForm where
  kind : Code StepKind
  pos : Option Nat
  deriving DecidableEq, Repr, Inhabited

/-- LESSON.EVICT's payload: empty, the discard flag, or neither (R46). -/
inductive EvictForm
  | keep | discard | other
  deriving DecidableEq, Repr, Inhabited

/-- The tracking mode (R78). -/
inductive Tracking
  | off | settle | continuous
  deriving DecidableEq, Repr, Inhabited

/-- The report mode (R80). -/
inductive ReportMode
  | perFrame | accumulate
  deriving DecidableEq, Repr, Inhabited

/-- FIND.SETUP's payload: the settings it names (R87). -/
structure FindForm where
  settle : Option Nat
  missing : Option Nat
  motion : Option Nat
  focusLow : Option Nat
  dark : Option Nat
  bright : Option Nat
  glare : Option Nat
  tracking : Option (Code Tracking)
  report : Option (Code ReportMode)
  deriving DecidableEq, Repr, Inhabited

/-- MATCH.SETUP's payload (R100). -/
structure MatchForm where
  enable : Option (Code Bool)
  tolerance : Option Nat
  deriving DecidableEq, Repr, Inhabited

/-- One entry of the detail table: base strength and noise floor, 0..255 each (R102). -/
structure DetailEntry where
  base : Byte
  floor : Byte
  deriving DecidableEq, Repr, Inhabited

/-- DETAIL.TABLE's payload (R111). -/
structure TableForm where
  start : Nat
  count : Nat
  entries : List DetailEntry
  deriving DecidableEq, Repr, Inhabited

/-- DETAIL.LIGHT's payload (R112). -/
structure LightForm where
  start : Nat
  count : Nat
  offsets : List Int
  deriving DecidableEq, Repr, Inhabited

/-- A selection kind (R128). -/
inductive SelectKind
  | live | page | cycle | blank
  deriving DecidableEq, Repr, Inhabited

/-- VIEW.SELECT's payload (R128). -/
structure SelectForm where
  kind : Code SelectKind
  handle : Option PageRef
  follow : Option (Code Bool)
  deriving DecidableEq, Repr, Inhabited

/-- A fallback kind (R127). -/
inductive FallbackKind
  | blank | last | page
  deriving DecidableEq, Repr, Inhabited

/-- VIEW.FALLBACK's payload (R128). -/
structure FallbackForm where
  kind : Code FallbackKind
  handle : Option PageRef
  deriving DecidableEq, Repr, Inhabited

/-- VIEW.ZOOM's payload (R129). -/
structure ZoomForm where
  target : Option Nat
  rate : Option Nat
  deriving DecidableEq, Repr, Inhabited

/-- A route (R115). -/
inductive Route
  | normal | mirror | raw
  deriving DecidableEq, Repr, Inhabited

/-- An apply mode (R115). -/
inductive ApplyMode
  | atFrame | atTake
  deriving DecidableEq, Repr, Inhabited

/-- VIEW.MODE's payload (R132). -/
structure ModeForm where
  applyMode : Option (Code ApplyMode)
  steady : Option (Code Bool)
  marksShown : Option (Code Bool)
  follow : Option (Code Bool)
  deriving DecidableEq, Repr, Inhabited

/-- The kind of a show-cycle entry (R145). -/
inductive EntryKind
  | live | page | blank
  deriving DecidableEq, Repr, Inhabited

/-- One entry as CYCLE.WRITE carries it (R151). -/
structure EntryArg where
  kind : Code EntryKind
  handle : Option PageRef
  dwell : Nat
  deriving DecidableEq, Repr, Inhabited

/-- CYCLE.WRITE's payload (R151). -/
structure CycleForm where
  start : Nat
  count : Nat
  entries : List EntryArg
  deriving DecidableEq, Repr, Inhabited

/-- The bus rate of the lens bus (R168). -/
inductive BusRate
  | k100 | k400
  deriving DecidableEq, Repr, Inhabited

/-- LENS.SETUP's payload (R170). -/
structure LensForm where
  lensAddr : Option Nat
  lampAddr : Option Nat
  autoLamp : Option (Code Bool)
  autoFocus : Option (Code Bool)
  rate : Option (Code BusRate)
  deriving DecidableEq, Repr, Inhabited

/-- A lens-bus device (R174). -/
inductive Device
  | lens | lamp
  deriving DecidableEq, Repr, Inhabited

/-- BRIDGE.WRITE's payload (R174). -/
structure BridgeWriteForm where
  device : Code Device
  reg : Byte
  data : List Byte
  deriving DecidableEq, Repr, Inhabited

/-- BRIDGE.READ's payload (R174). -/
structure BridgeReadForm where
  device : Code Device
  reg : Byte
  count : Nat
  deriving DecidableEq, Repr, Inhabited

/-! ### What the surroundings deliver -/

/-- The part of a grid cell that is darker than the page background: `dark` of `total` (R75). -/
structure Ink where
  dark : Nat
  total : Nat
  deriving DecidableEq, Repr, Inhabited

/-- What an intake frame delivers by its end: whether its 3072 lines of 4096 pixels are full (R66), a name
for its pixels, and what the Page Finder measures in it (R71). `ink` is taken on the straightened page
before record 0's rotation and mirror, cell 0 at the top left (R75). -/
structure IntakeFrame where
  full : Bool
  pixels : Nat
  outline : Option Corners
  motion : Fin 256
  focus : Fin 256
  light : Fin 16
  glare : Fin 101
  ink : Vector Ink 16
  deriving DecidableEq, Repr, Inhabited

/-! ### The commands -/

/-- One constructor for each row of spec/opcode_table.json, in the table's order. The rows of telegram
commands are the owning block's execution of a telegram that names them: the level, target and payload
are what DISPATCH hands to the block (R180).

`telegramReceived` carries the bits shifted in during one select period, in order, and `fetch` the number of
bits clocked after the fetch marker (R177). `bridgeRead` carries no form where its payload has the wrong length
(R174). `lensTransactionEnd` carries how many of the bytes the device had to acknowledge it acknowledged before
the first it did not, and what it gave to be read (R168). -/
inductive Instr
  | powerOnReset
  | telegramReceived (bits : List Bool)
  | fetch (clocked : Nat)
  | dispatch
  | takeEdge
  | nextEdge
  | prevEdge
  | adminNegation
  | adminAssertion
  | pageNew (lvl : Level) (place : Option Placement)
  | pageSave (lvl : Level) (form : SaveForm)
  | pageCopy (lvl : Level) (src : PageRef) (place : Option Placement)
  | pageSet (lvl : Level) (page : PageRef) (form : SetForm)
  | pageZone (lvl : Level) (target : Members) (form : ZoneForm)
  | pageMarks (lvl : Level) (page : PageRef) (form : MarksForm)
  | pageMarkclear (lvl : Level) (target : Members) (positions : Byte)
  | pageSign (lvl : Level) (page : PageRef) (form : SignForm)
  | pageLock (lvl : Level) (target : Members) (lock : Nat)
  | pageGroup (lvl : Level) (page : PageRef) (groups : Byte)
  | pageRetire (lvl : Level) (target : Members)
  | pageRead (page : PageRef)
  | lessonActivate (lesson : Option Nat)
  | lessonOpen (lvl : Level) (lesson : Nat) (form : OpenForm)
  | lessonSet (lvl : Level) (lesson : Nat) (form : LessonSetForm)
  | lessonPlace (lvl : Level) (page : PageRef) (place : Placement)
  | lessonMove (lvl : Level) (lesson : Nat) (a : Nat) (b : Nat)
  | lessonRemove (lvl : Level) (lesson : Nat) (p : Nat)
  | lessonStep (form : StepForm)
  | lessonRead (lesson : Nat)
  | lessonEvict (lvl : Level) (lesson : Nat) (form : EvictForm)
  | lessonCommit (lvl : Level) (lesson : Nat)
  | lessonLoad (lvl : Level) (lesson : Nat)
  | lessonAbandon (lvl : Level) (lesson : Nat)
  | lessonErase (lvl : Level) (lesson : Nat)
  | stillFreeze (lvl : Level) (page : PageRef) (source : Code FreezeSource)
  | stillDrop (lvl : Level) (target : Members)
  | stillRead
  | findSetup (lvl : Level) (form : FindForm)
  | findRead
  | findClear
  | matchSetup (lvl : Level) (form : MatchForm)
  | matchTry (lesson : Option Nat) (probe : Option (List Nat))
  | detailTable (lvl : Level) (form : TableForm)
  | detailLight (lvl : Level) (form : LightForm)
  | detailReadBandSet (views : ViewSet)
  | detailReadTables
  | viewSelect (views : ViewSet) (form : SelectForm)
  | viewFallback (lvl : Level) (views : ViewSet) (form : FallbackForm)
  | viewZoom (views : ViewSet) (form : ZoomForm)
  | viewPan (views : ViewSet) (x : Nat) (y : Nat)
  | viewRoute (lvl : Level) (views : ViewSet) (route : Code Route)
  | viewMode (views : ViewSet) (form : ModeForm)
  | viewTake (views : ViewSet)
  | viewRead (views : ViewSet)
  | portStart (lvl : Level) (views : ViewSet) (rate : Option Nat)
  | portStop (lvl : Level) (views : ViewSet)
  | portReset (lvl : Level) (views : ViewSet)
  | portRead (views : ViewSet)
  | cycleWrite (views : ViewSet) (form : CycleForm)
  | cycleLength (views : ViewSet) (length : Nat)
  | cycleClear (views : ViewSet)
  | lensSetup (lvl : Level) (form : LensForm)
  | bridgeWrite (lvl : Level) (form : BridgeWriteForm)
  | bridgeRead (lvl : Level) (form : Option BridgeReadForm)
  | bridgeResult
  | devCeiling (ceiling : Nat)
  | devMask (bits : BitVec 24)
  | devStatus (mode : ReplyMode)
  | devAck (bits : BitVec 24)
  | devIdent
  | devReset (lvl : Level)
  | intakeFrameStart
  | intakeFrameEnd (frame : IntakeFrame)
  | intakeTimeout
  | lensTransactionEnd (acked : Nat) (data : Vector Byte 8)
  | clockHoldTimeout
  | portFramePeriod (port : ViewId) (ready : Bool)
  | portFrameEnd (port : ViewId)
  | commitPhaseEnd
  | loadPhaseEnd
  | clearEnd
  | flashStepFailure (clearAlone : Bool)
  | flashStepTimeout
  deriving DecidableEq, Repr

end Sys2Proof
end

