-- ==== Sys2Proof/Machine/State.lean ====
section
/-! DEFINITION. Everything the spec gives the part to hold, as plain data, and the machine right after
power-on reset. -/

namespace Sys2Proof.Machine

/-! ### Small collections -/

/-- One value for each of PROJ, STRM and PANEL. -/
structure Trio (α : Type) where
  proj : α
  strm : α
  panel : α
  deriving DecidableEq, Repr

/-! ### Page Table (R1, R4) -/

/-- The state of a page record (R1). -/
inductive RecState
  | free | loading | opened | retiring
  deriving DecidableEq, Repr

/-- A page handle: a record index with a generation (00_scope.md "Page handle"). -/
structure Handle where
  idx : Fin 64
  gen : Byte
  deriving DecidableEq, Repr

/-- A mark: a kind and a rectangle in page units (R4). -/
structure Mark where
  kind : MarkKind
  x0 : Nat
  y0 : Nat
  x1 : Nat
  y1 : Nat
  deriving DecidableEq, Repr

/-- The saved fields of a record except its still (R4): what PAGE.COPY copies (R14) and a page image
holds (R155). `none` in `overrides` is INHERIT. -/
structure Setup where
  label : Option (List Byte)
  lock : Level
  groups : Byte
  corners : Option Corners
  rotation : Rotation
  mirror : Bool
  pageMode : PageMode
  overrides : Vector (Option PageMode) 12
  marks : Vector (Option Mark) 8
  signature : Option Signature
  sigMask : BitVec 16
  matchEnable : Bool
  preset : Option Preset
  deriving DecidableEq, Repr

/-- The blank values of the saved fields (R5). -/
def Setup.blank : Setup where
  label := none
  lock := .presenter
  groups := 0
  corners := none
  rotation := .r0
  mirror := false
  pageMode := .text
  overrides := .replicate 12 none
  marks := .replicate 8 none
  signature := none
  sigMask := 0xFFFF
  matchEnable := false
  preset := none

/-- A page record (R4). -/
structure Record where
  st : RecState
  gen : Byte
  lesson : Option (Fin 8)
  setup : Setup
  still : Option (Fin 24)
  fill : Option (Fin 24)
  dirty : Bool
  selRefs : Nat
  cycRefs : Nat
  holds : Nat
  deriving DecidableEq, Repr

/-- A FREE record with the blank values, carrying a generation (R1, R5). -/
def Record.blank (gen : Byte) : Record where
  st := .free
  gen := gen
  lesson := none
  setup := .blank
  still := none
  fill := none
  dirty := false
  selRefs := 0
  cycRefs := 0
  holds := 0

/-! ### Lesson Table (R30) -/

/-- The state of a lesson (R29). -/
inductive LessonState
  | absent | loading | opened | committing
  deriving DecidableEq, Repr

/-- A lesson (R30). Its order lists record indices in showing order. -/
structure Lesson where
  st : LessonState
  label : Option (List Byte)
  lock : Level
  stored : Bool
  lost : Bool
  dirty : Bool
  order : List (Fin 64)
  cursor : Option Nat
  progress : Option Nat
  deriving DecidableEq, Repr

/-- An ABSENT lesson with the given stored and lost flags (R29). -/
def Lesson.absent (stored lost : Bool) : Lesson where
  st := .absent
  label := none
  lock := .presenter
  stored := stored
  lost := lost
  dirty := false
  order := []
  cursor := none
  progress := none

/-! ### Detail Engine (R102, R108) -/

/-- What one band of a frame gets: its effective mode or none, its strength, its noise floor, and whether
it is inverted (R108). -/
structure Band where
  mode : Option PageMode
  strength : Nat
  floor : Nat
  inverted : Bool
  deriving DecidableEq, Repr

/-- The kind of a frame's source (R109, R135). -/
inductive SourceKind
  | livePage | pageStill | composedStill | raw | blank
  deriving DecidableEq, Repr

/-- The band set of a frame (R108). -/
structure BandSet where
  kind : SourceKind
  record : Option Handle
  zoom : Nat
  entry : Nat
  light : Option (Fin 16)
  bands : Vector Band 12
  inFlight : Bool
  deriving DecidableEq, Repr

/-- The Detail Engine's state (R102). -/
structure Detail where
  table : Vector DetailEntry 32
  light : Vector Int 16
  bandSets : Trio (Option BandSet)
  deriving DecidableEq, Repr

/-! ### Pictures

Pixel encodings are outside the spec (00_scope.md "About this reference"), so a picture is the term that
says which pixels it is made from and by which stages (R55, R56, R140, R141, R143). See log 7. -/

/-- A rectangle in page units (R4). -/
structure Rect where
  x0 : Nat
  y0 : Nat
  x1 : Nat
  y1 : Nat
  deriving DecidableEq, Repr

/-- One act of drawing marks (R141): dim everything outside the union of the rectangles to one part in
`parts` of its brightness, fill one with grey, or draw a line along the inside of one, `sixteenths` sixteenths
of a band high. -/
inductive Draw
  | dimOutside (rects : List Rect) (parts : Nat)
  | cover (r : Rect)
  | outline (r : Rect) (sixteenths : Nat)
  deriving DecidableEq, Repr

/-- Page rows, from `top` up to but not including `bottom` (R103). -/
structure Strip where
  top : Nat
  bottom : Nat
  deriving DecidableEq, Repr

/-- One act of enhancement on the rows of a band (R110): turn the tones over, or sharpen with a strength and a
noise floor. -/
inductive BandAct
  | invert (rows : Strip)
  | sharpen (rows : Strip) (strength floor : Nat)
  deriving DecidableEq, Repr

/-- A picture as the stages that make it (R140, R143). -/
inductive Picture
  /-- uniform black (R140) -/
  | black
  /-- the uncorrected sensor frame whose pixels have this name (R69) -/
  | sensor (pixels : Nat)
  /-- a sensor frame straightened through corners, or taken whole as the page (R55, R139) -/
  | straightened (pixels : Nat) (corners : Option Corners)
  /-- turned by a rotation, then reversed left to right where the mirror is on (R140 stage 1) -/
  | turned (p : Picture) (rotation : Rotation) (mirror : Bool)
  /-- the part within the pan window of a zoom and centre, scaled to the port (R140 stage 2) -/
  | pageWindow (p : Picture) (zoom x y : Nat)
  /-- the part of the sensor picture of this width and height about its centre (R143) -/
  | sensorWindow (p : Picture) (width height : Nat)
  /-- enhanced band by band, by these acts in order (R110, R140 stage 3) -/
  | enhanced (p : Picture) (acts : List BandAct)
  /-- with marks drawn in order (R141, R140 stage 4) -/
  | marked (p : Picture) (draws : List Draw)
  deriving DecidableEq, Repr, Inhabited

/-! ### Still Store (R48) -/

/-- The state of a still slot (R49). -/
inductive SlotState
  | free | filling | ready | released
  deriving DecidableEq, Repr

/-- The kind of a still (R48). -/
inductive StillKind
  | page | composed
  deriving DecidableEq, Repr

/-- Where a fill's picture comes from (R48). -/
inductive FillSource
  | page | proj | load
  deriving DecidableEq, Repr

/-- The phase of a fill from PAGE or PROJ (R48). -/
inductive FillPhase
  | queued | capturing
  deriving DecidableEq, Repr

/-- A still slot (R48). `capture` is the choice of corners standing at the captured frame's start (R55);
`picture` is what the slot's blocks hold. -/
structure Slot where
  st : SlotState
  blocks : Nat
  kind : StillKind
  light : Fin 16
  holds : Nat
  record : Option Handle
  source : Option FillSource
  phase : Option FillPhase
  capture : Option Corners
  picture : Option Picture
  deriving DecidableEq, Repr

/-- A FREE slot as after reset (R48). DESIGN CHOICE, unsafe (log 21): kind PAGE and light level 0, which the
spec does not give. -/
def Slot.reset : Slot where
  st := .free
  blocks := 0
  kind := .page
  light := 0
  holds := 0
  record := none
  source := none
  phase := none
  capture := none
  picture := none

/-! ### Sensor Intake and Page Finder (R65, R70) -/

/-- The intake state (R65). -/
inductive IntakeState
  | waiting | running | lost
  deriving DecidableEq, Repr

/-- Sensor Intake (R65). `lastGood` names the pixels of the last good picture. `timer` holds the timeout
timer's value at its latest restart: the time between commands is left out (DESIGN CHOICE, unsafe, log 3). -/
structure Intake where
  st : IntakeState
  good : Nat
  lastGood : Option Nat
  timer : Nat
  inProgress : Bool
  deriving DecidableEq, Repr

/-- The finder state (R70). -/
inductive FinderState
  | noSignal | empty | arriving | settled | moving
  deriving DecidableEq, Repr

/-- The latest measures (R70, R71). -/
structure Measures where
  outline : Bool
  motion : Fin 256
  focus : Fin 256
  light : Fin 16
  glare : Fin 101
  deriving DecidableEq, Repr

/-- A set of the four quality flags (R79). -/
structure Quality where
  focusLow : Bool
  dark : Bool
  bright : Bool
  glare : Bool
  deriving DecidableEq, Repr

/-- The Page Finder's settings (R87). -/
structure FinderSettings where
  settle : Nat
  missing : Nat
  motion : Nat
  focusLow : Nat
  dark : Nat
  bright : Nat
  glare : Nat
  tracking : Tracking
  report : ReportMode
  deriving DecidableEq, Repr

/-- The state of the focus run (R70). -/
inductive FocusRun
  | idle | starting | polling
  deriving DecidableEq, Repr

/-- The outcome of the latest focus run (R70). -/
inductive FocusOutcome
  | none | done | failed | timeout | nack | cancelled
  deriving DecidableEq, Repr

/-- The Page Finder (R70). `hasPrevious` says whether a frame has been analysed since NO_SIGNAL was last
left (R71). -/
structure Finder where
  st : FinderState
  stable : Nat
  missing : Nat
  liveCorners : Option Corners
  liveSig : Option Signature
  latest : Option Measures
  flags : Quality
  focusLowHeld : Bool
  report : Quality
  settings : FinderSettings
  hasPrevious : Bool
  lamp : Fin 16
  syncPending : Bool
  darkCount : Nat
  brightCount : Nat
  run : FocusRun
  busyPolls : Nat
  outcome : FocusOutcome
  deriving DecidableEq, Repr

/-! ### View Control (R115) -/

/-- A selection (R117). -/
inductive Selection
  | live
  | page (h : Handle)
  | cycle
  | blank
  deriving DecidableEq, Repr

/-- A fallback (R127). -/
inductive Fallback
  | blank
  | last
  | page (h : Handle)
  deriving DecidableEq, Repr

/-- One half of a view context (R115). -/
structure Half where
  sel : Selection
  follow : Bool
  target : Nat
  rate : Nat
  panX : Nat
  panY : Nat
  route : Route
  marksShown : Bool
  steady : Bool
  deriving DecidableEq, Repr

/-- The frame values of a view (R126). -/
structure FrameValues where
  zoom : Nat
  centre : Option (Nat × Nat)
  inFlight : Bool
  deriving DecidableEq, Repr

/-- A view context (R115). -/
structure ViewCtx where
  staged : Half
  current : Half
  applyMode : ApplyMode
  armed : Bool
  zoom : Nat
  dither : Fin 4
  fallback : Fallback
  frame : Option FrameValues
  deriving DecidableEq, Repr

/-! ### Output ports (R135, R145) -/

/-- The state of a port (R135). -/
inductive PortState
  | off | running | stopping | holding
  deriving DecidableEq, Repr

/-- What a show-cycle entry shows (R145). -/
inductive EntrySel
  | live
  | page (h : Handle)
  | blank
  deriving DecidableEq, Repr

/-- A show-cycle entry (R145). -/
structure CycleEntry where
  sel : EntrySel
  dwell : Nat
  deriving DecidableEq, Repr

/-- A port's show cycle (R145). -/
structure ShowCycle where
  entries : Vector CycleEntry 12
  length : Nat
  pos : Nat
  dwell : Nat
  deriving DecidableEq, Repr

/-- The fallback a frame used (R135). -/
inductive FallbackUsed
  | none | blank | last | page
  deriving DecidableEq, Repr

/-- The source recorded with a frame in flight (R135). -/
structure Source where
  kind : SourceKind
  record : Option Handle
  slot : Option (Fin 24)
  fallback : FallbackUsed
  cyclePos : Option Nat
  mirrored : Bool
  deriving DecidableEq, Repr

/-- A frame in flight: its source and the picture it is composed into (R135, R140). -/
structure FlightFrame where
  source : Source
  picture : Picture
  deriving DecidableEq, Repr

/-- An output port (R135). -/
structure PortCtx where
  st : PortState
  rate : Nat
  frame : Option FlightFrame
  ended : BitVec 32
  abandoned : BitVec 32
  stall : Nat
  ready : Bool
  cycle : ShowCycle
  deriving DecidableEq, Repr

/-! ### Lesson flash and its controller (R154 to R156) -/

/-- One entry of a still directory (R155). -/
structure DirEntry where
  blocks : Nat
  kind : StillKind
  light : Fin 16
  deriving DecidableEq, Repr

/-- The header values a descriptor holds (R156). `dir` has 32 entries, `none` for 0. -/
structure HeaderVals where
  pages : Nat
  stills : Nat
  blocks : Nat
  lock : Level
  label : Option (List Byte)
  dir : List (Option DirEntry)
  deriving DecidableEq, Repr

/-- An area descriptor (R156). The header values are present when both marks are yes. -/
structure AreaDesc where
  valid : Bool
  sound : Bool
  header : Option HeaderVals
  deriving DecidableEq, Repr

/-- One block frame of a picture region: block `part` of the `total` blocks of a picture (R154). -/
structure BlockFrame where
  picture : Picture
  part : Nat
  total : Nat
  deriving DecidableEq, Repr

/-- A lesson flash area (R154): the bytes of its header and page images written since its last erase, by area offset,
offsets strictly rising; the 64 block frames of its picture region; and whether the area answers the flash link (R156,
an input). Where the picture region starts among the offsets is `pictureOffset`. -/
structure Area where
  cells : List Host.Cell
  frames : Vector (Option BlockFrame) 64
  answers : Bool
  deriving DecidableEq, Repr

/-- What stands at an offset of an area: a byte, absent where nothing has been written since the erase, or the picture
region with its block frames (R154, R155). -/
inductive AreaContent
  | byte (b : Option Byte)
  | picture (frames : Vector (Option BlockFrame) 64)
  deriving DecidableEq, Repr

/-- The phase of a commit (R156). -/
inductive CommitPhase
  | erase
  | header
  | page (k : Nat)
  | marker
  deriving DecidableEq, Repr

/-- The phase of a load (R156). -/
inductive LoadPhase
  | header
  | page (k : Nat)
  deriving DecidableEq, Repr

/-- The operation in flight (R156). -/
inductive FlashOp
  | commit (l : Fin 8) (phase : CommitPhase)
  | load (l : Fin 8) (phase : LoadPhase)
  | clear (l : Fin 8)
  deriving DecidableEq, Repr

/-! ### Lens Bus Bridge (R169) -/

/-- The bus state (R169). -/
inductive BusState
  | idle | autoOnBus | bridgeOnBus | draining
  deriving DecidableEq, Repr

/-- A requester of the lens bus (R169). -/
inductive Requester
  | auto | bridge
  deriving DecidableEq, Repr

/-- What an AUTO request does (R171). A LAMP_SET is marked when it is a sync write (R81, R83). -/
inductive AutoKind
  | lampSet (level : Fin 16) (sync : Bool)
  | focusStart
  | focusPoll
  deriving DecidableEq, Repr

/-- The AUTO request (R171). `orphan` marks a transaction on the bus whose focus run was cancelled (R86,
log 22). -/
structure AutoReq where
  kind : AutoKind
  addr : BitVec 7
  orphan : Bool
  deriving DecidableEq, Repr

/-- What a transaction does: it writes data bytes, or reads a count of them (R168). -/
inductive BusAct
  | write (data : List Byte)
  | read (count : Nat)
  deriving DecidableEq, Repr

/-- A lens-bus transaction: a device address, a register, and a write or a read (R168). -/
structure Transaction where
  addr : BitVec 7
  reg : Byte
  act : BusAct
  deriving DecidableEq, Repr

/-- The bridge request (R169). It is ON_BUS exactly while `onBus`. -/
structure BridgeReq where
  kind : BusAct
  device : Device
  addr : BitVec 7
  reg : Byte
  onBus : Bool
  deriving DecidableEq, Repr

/-- The direction of a transaction or of an address on the bus (R168, R173). -/
inductive BusDir
  | write | read
  deriving DecidableEq, Repr

/-- What goes over the lens bus, one event at a time (R168): the conditions, the address and the bytes the part
sends, and a byte it receives with whether the part acknowledges it. -/
inductive BusEvent
  | start
  | restart
  | address (addr : BitVec 7) (dir : BusDir)
  | sent (b : Byte)
  | received (b : Byte) (acked : Bool)
  | stop
  deriving DecidableEq, Repr

/-- The transaction on the bus, with the rate it runs at (R168). -/
structure Carried where
  tx : Transaction
  rate : BusRate
  deriving DecidableEq, Repr

/-- A bridge outcome other than NONE (R169). -/
structure BridgeOutcome where
  ack : Bool
  dir : BusDir
  device : Device
  reg : Byte
  count : Nat
  deriving DecidableEq, Repr

/-- The Lens Bus Bridge (R169). `carried` is the transaction on the bus; `lines` is what went over the bus in
the latest transaction that ended (R168). `heldClocks` is the model's own: it counts the transactions that a held
clock ended, and names the free value of the next one (log 38). -/
structure Lens where
  bus : BusState
  turn : Requester
  auto : Option AutoReq
  bridge : Option BridgeReq
  outcome : Option BridgeOutcome
  buffer : Vector Byte 8
  valid : Nat
  lensAddr : BitVec 7
  lampAddr : BitVec 7
  rate : BusRate
  autoLamp : Bool
  autoFocus : Bool
  carried : Option Carried
  lines : List BusEvent
  heldClocks : Nat
  deriving DecidableEq, Repr

/-! ### Control Link (R176 to R184) -/

/-- The sixteen result codes (R176). -/
inductive ResultCode
  | ok | accepted | busy | stale | locked | level | full | noStill | referenced | range | state | dirty
  | target | argument | unknown | partialDone
  deriving DecidableEq, Repr

/-- The nineteen attention flags (R183). -/
inductive Flag
  | settled | recalled | unmatched | freezeDone | freezeAborted | stillFull | commitDone | loadDone
  | opFailed | retired | bridgeDone | focusDone | linkError | overrun | replyReady | sensorLost | quality
  | strmStalled | lensFault
  deriving DecidableEq, Repr

/-- A framed telegram (R176): everything before its check. -/
structure Telegram where
  tag0 : Byte
  tag1 : Byte
  control : Byte
  kind : Byte
  value0 : Byte
  value1 : Byte
  payload : List Byte
  deriving DecidableEq, Repr

/-! ### Reply payloads, as the values the spec says a reply carries -/

/-- The still of PAGE.READ's reply (R28). -/
structure StillInfo where
  slot : Fin 24
  kind : StillKind
  blocks : Nat
  light : Fin 16
  deriving DecidableEq, Repr

/-- PAGE.READ's reply (R28). -/
structure PageReply where
  handle : Handle
  lesson : Option (Fin 8)
  position : Option Nat
  setup : Setup
  still : Option StillInfo
  fill : Option (Fin 24)
  dirty : Bool
  selRefs : Nat
  cycRefs : Nat
  holds : Nat
  deriving DecidableEq, Repr

/-- LESSON.READ's reply (R45). -/
structure LessonReply where
  st : LessonState
  label : Option (List Byte)
  lock : Level
  stored : Bool
  lost : Bool
  dirty : Bool
  active : Bool
  order : List Handle
  cursor : Option Nat
  progress : Option Nat
  deriving DecidableEq, Repr

/-- Whether a slot is its record's still or its fill pending (R64). -/
inductive SlotRole
  | still | fill
  deriving DecidableEq, Repr

/-- One slot of STILL.READ's reply (R64). -/
structure SlotReply where
  st : SlotState
  blocks : Nat
  picture : Option (StillKind × Fin 16)
  holds : Nat
  owner : Option (Handle × SlotRole)
  source : Option FillSource
  phase : Option FillPhase
  deriving DecidableEq, Repr

/-- FIND.READ's reply (R88). -/
structure FinderReply where
  intake : IntakeState
  good : Nat
  hasLastGood : Bool
  st : FinderState
  stable : Nat
  missing : Nat
  liveCorners : Option Corners
  liveSig : Option Signature
  latest : Option Measures
  flags : Quality
  report : Quality
  settings : FinderSettings
  lamp : Fin 16
  syncPending : Bool
  lampOutstanding : Bool
  darkCount : Nat
  brightCount : Nat
  run : FocusRun
  busyPolls : Nat
  outcome : FocusOutcome
  deriving DecidableEq, Repr

/-- A match in MATCH.TRY's reply (R101). -/
structure MatchHit where
  position : Nat
  handle : Handle
  mismatches : Nat
  deriving DecidableEq, Repr

/-- MATCH.TRY's reply (R101). -/
structure TryReply where
  probe : Signature
  tolerance : Nat
  enable : Bool
  hit : Option MatchHit
  agreements : Nat
  deriving DecidableEq, Repr

/-- PORT.READ's reply (R150). `sink` is the ready input as last sampled and the stall count, for STRM. -/
structure PortReply where
  port : ViewId
  st : PortState
  rate : Nat
  ended : BitVec 32
  abandoned : BitVec 32
  sink : Option (Bool × Nat)
  source : Option Source
  cycle : ShowCycle
  deriving DecidableEq, Repr

/-- The phase of the bridge request in BRIDGE.RESULT's reply (R175). -/
inductive BridgePhase
  | none | waiting | onBus
  deriving DecidableEq, Repr

/-- BRIDGE.RESULT's reply (R175). -/
structure BridgeReply where
  phase : BridgePhase
  outcome : Option BridgeOutcome
  buffer : Vector Byte 8
  valid : Nat
  lensAddr : BitVec 7
  lampAddr : BitVec 7
  rate : BusRate
  autoLamp : Bool
  autoFocus : Bool
  bus : BusState
  turn : Requester
  deriving DecidableEq, Repr

/-- DEV.STATUS's reply (R185). -/
structure StatusReply where
  status : FlagSet
  mask : FlagSet
  ceiling : Level
  adminLine : Bool
  intakeCount : Nat
  assemblyOccupied : Bool
  replyCount : Nat
  deriving DecidableEq, Repr

/-- DEV.IDENT's reply (R187). -/
structure IdentReply where
  part : Nat
  revision : Nat
  records : Nat
  lessons : Nat
  pagesPerLesson : Nat
  slots : Nat
  blocks : Nat
  views : Nat
  cycleEntries : Nat
  deriving DecidableEq, Repr

/-- A reply payload, one constructor for each shape of value the spec lets a reply carry. -/
inductive ReplyBody
  | empty
  | handle (h : Handle)
  | frozen (slot : Fin 24) (blocks : Nat)
  | group (applied refused : Nat) (first : Option (Fin 64 × ResultCode))
  | page (r : PageReply)
  | position (p : Nat)
  | stepped (p : Nat) (h : Handle)
  | lesson (r : LessonReply)
  | names (record : Fin 64)
  | evicted (freed retiring : Nat)
  | stills (freeBlocks freeSlots : Nat) (slots : List SlotReply)
  | finder (r : FinderReply)
  | tried (r : TryReply)
  | nextIndex (n : Nat)
  | bandSet (b : Option BandSet)
  | tables (table : Vector DetailEntry 32) (light : Vector Int 16)
  | armed (views : List ViewId)
  | view (v : ViewId) (c : ViewCtx)
  | port (r : PortReply)
  | bridge (r : BridgeReply)
  | ceiling (l : Level)
  | status (r : StatusReply)
  | ident (r : IdentReply)
  deriving DecidableEq, Repr

/-- What an owning block returns to the Control Link: a result and a reply payload (R180). -/
structure Answer where
  code : ResultCode
  body : ReplyBody
  deriving DecidableEq, Repr

/-- A reply in the reply queue (R176, R181). -/
structure Reply where
  tag0 : Byte
  tag1 : Byte
  answer : Answer
  deriving DecidableEq, Repr

/-- The Control Link (R176 to R184). `adminLine` is an input pin read as a level; `dataOut` is what the
latest select period shifted out; `answer` is the model's own record of what the owning block returned for the
latest executed telegram (log 1). -/
structure Link where
  intake : List Telegram
  assembly : Option Telegram
  ready : Bool
  replies : List Reply
  ceiling : Level
  adminLine : Bool
  status : FlagSet
  mask : FlagSet
  dataOut : List Byte
  answer : Option Answer
  deriving DecidableEq, Repr

/-! ### The machine -/

/-- The whole part, and the commands that wait (log 1). -/
structure State where
  records : Vector Record 64
  lessons : Vector Lesson 8
  active : Option (Fin 8)
  slots : Vector Slot 24
  freeBlocks : Nat
  sin : Intake
  pfd : Finder
  matchOn : Bool
  tolerance : Nat
  dte : Detail
  views : Trio ViewCtx
  ports : Trio PortCtx
  areas : Vector Area 8
  descs : Vector AreaDesc 8
  op : Option FlashOp
  lens : Lens
  link : Link
  pending : List Instr
  deriving DecidableEq, Repr

/-- No command of the spec stops the part with a fault: every refusal is a result code and every failure
an attention flag, so there is no constructor (INVENTORY.md "Faults"). -/
inductive Fault
  deriving DecidableEq, Repr

/-- Why the model gives a command no meaning. -/
inductive Refusal
  /-- Raised by a Dispatch arm of a command that has no meaning yet; safe, since nothing is claimed of it. -/
  | notModelled (mnemonic : String)
  deriving DecidableEq, Repr

/-! ### The machine after power-on reset -/

/-- The default settings of R87. -/
def FinderSettings.default : FinderSettings where
  settle := 8
  missing := 4
  motion := 24
  focusLow := 80
  dark := 3
  bright := 14
  glare := 5
  tracking := .settle
  report := .perFrame

/-- The empty set of quality flags (R79). -/
def Quality.empty : Quality := ⟨false, false, false, false⟩

/-- Sensor Intake after either reset (R65). -/
def Intake.reset : Intake where
  st := .waiting
  good := 0
  lastGood := none
  timer := 0
  inProgress := false

/-- The Page Finder after either reset (R70). -/
def Finder.reset : Finder where
  st := .noSignal
  stable := 0
  missing := 0
  liveCorners := none
  liveSig := none
  latest := none
  flags := .empty
  focusLowHeld := false
  report := .empty
  settings := .default
  hasPrevious := false
  lamp := 8
  syncPending := true
  darkCount := 0
  brightCount := 0
  run := .idle
  busyPolls := 0
  outcome := .none

/-- The Detail Engine after either reset (R102). -/
def Detail.reset : Detail where
  table := ⟨((List.range 32).map fun k => ⟨BitVec.ofNat 8 (64 + 4 * k), 16⟩).toArray, by simp⟩
  light := ⟨((List.range 16).map fun l => if l < 3 then -16 else 0).toArray, by simp⟩
  bandSets := ⟨none, none, none⟩

/-- Either half of a view after either reset (R115). -/
def Half.reset : Half where
  sel := .live
  follow := false
  target := 256
  rate := 8
  panX := 2048
  panY := 2048
  route := .normal
  marksShown := true
  steady := false

/-- A view context after either reset (R115). -/
def ViewCtx.reset : ViewCtx where
  staged := .reset
  current := .reset
  applyMode := .atFrame
  armed := false
  zoom := 256
  dither := 0
  fallback := .blank
  frame := none

/-- A BLANK entry with dwell 1 (R135). -/
def CycleEntry.blank : CycleEntry := ⟨.blank, 1⟩

/-- A port after either reset, with its frame rate (R135). -/
def PortCtx.reset (rate : Nat) : PortCtx where
  st := .off
  rate := rate
  frame := none
  ended := 0
  abandoned := 0
  stall := 0
  ready := false
  cycle := ⟨.replicate 12 .blank, 1, 0, 1⟩

/-- A lesson flash area with nothing written in it. DESIGN CHOICE, unsafe (log 8, log 9): the spec gives the
external flash no contents at power-on and does not say that it answers. -/
def Area.unwritten : Area where
  cells := []
  frames := .replicate 64 none
  answers := true

/-- The descriptor of an area without a valid marker (R156). -/
def AreaDesc.invalid : AreaDesc := ⟨false, false, none⟩

/-- The Lens Bus Bridge after power-on reset (R169). DESIGN CHOICE, unsafe (log 37): no transaction has gone over
the bus, which the spec does not say; and the model's own counter starts at 0 (log 38). -/
def Lens.reset : Lens where
  bus := .idle
  turn := .auto
  auto := none
  bridge := none
  outcome := none
  buffer := .replicate 8 0
  valid := 0
  lensAddr := 0x28
  lampAddr := 0x2C
  rate := .k100
  autoLamp := false
  autoFocus := false
  carried := none
  lines := []
  heldClocks := 0

/-- The Control Link after either reset (R188). DESIGN CHOICE, unsafe: the ADMIN line negated (log 10) and
nothing shifted out (log 29), neither of which the spec gives. -/
def Link.reset : Link where
  intake := []
  assembly := none
  ready := true
  replies := []
  ceiling := .owner
  adminLine := false
  status := 0
  mask := 0
  dataOut := []
  answer := none

/-- The machine right after power-on reset (R7, R30, R48, R65, R70, R90, R102, R115, R135, R156, R169,
R188), with a flash that holds nothing (log 8). -/
def State.reset : State where
  records := (Vector.replicate 64 (Record.blank 0)).set 0 { Record.blank 0 with st := .opened }
  lessons := .replicate 8 (.absent false false)
  active := none
  slots := .replicate 24 .reset
  freeBlocks := 64
  sin := .reset
  pfd := .reset
  matchOn := false
  tolerance := 1
  dte := .reset
  views := ⟨.reset, .reset, .reset⟩
  ports := ⟨.reset 60, .reset 30, .reset 30⟩
  areas := .replicate 8 .unwritten
  descs := .replicate 8 .invalid
  op := none
  lens := .reset
  link := .reset
  pending := []

end Sys2Proof.Machine
end

