-- ==== Sys2Proof/Config.lean ====
section
/-! DEFINITION. What the spec leaves to the implementation: uninterpreted constants without a body, so that no
proof can rest on a value of theirs. -/

namespace Sys2Proof

open Machine

/-- How a telegram's payload bytes spell each command's items. The spec lays out the telegram (R176) and gives
payloads as named items only (00_scope.md: "Everything else is given as named records, fields and states").
DESIGN CHOICE, safe (log 5): every payload layout is a function the model knows nothing of. -/
structure PayloadForms where
  placement : List Byte → Placement
  save : List Byte → SaveForm
  set : List Byte → SetForm
  zone : List Byte → ZoneForm
  marks : List Byte → MarksForm
  sign : List Byte → SignForm
  lessonOpen : List Byte → OpenForm
  lessonSet : List Byte → LessonSetForm
  move : List Byte → Nat × Nat
  remove : List Byte → Nat
  step : List Byte → StepForm
  evict : List Byte → EvictForm
  freeze : List Byte → Code FreezeSource
  find : List Byte → FindForm
  matcher : List Byte → MatchForm
  probe : List Byte → List Nat
  table : List Byte → TableForm
  light : List Byte → LightForm
  select : List Byte → SelectForm
  fallback : List Byte → FallbackForm
  zoom : List Byte → ZoomForm
  pan : List Byte → Nat × Nat
  route : List Byte → Code Route
  mode : List Byte → ModeForm
  rate : List Byte → Nat
  cycle : List Byte → CycleForm
  cycleLength : List Byte → Nat
  lens : List Byte → LensForm
  bridgeWrite : List Byte → BridgeWriteForm
  bridgeRead : List Byte → BridgeReadForm
  deriving Inhabited

/-- The payload layouts (log 5). -/
opaque Config.forms : PayloadForms

/-- Whether a payload of this many bytes can be a form of the command with this tag (R180 step 4), for the
commands whose payload the spec gives no layout. DESIGN CHOICE, safe (log 5). -/
opaque Config.lengthAllowed : Byte → Byte → Nat → Bool

/-- The bytes of a reply payload that carries values. DESIGN CHOICE, safe (log 6): the spec lists what a reply
carries and gives no layout. -/
opaque Config.replyPayload : ReplyBody → List Byte

/-- What data out carries while the fetch marker itself is shifted in. DESIGN CHOICE, safe (log 6): the spec
gives data out for a telegram's period and for the bytes of the reply only. -/
opaque Config.markerPeriodByte : Byte

/-- The picture a slot holds when the block frames read for it are not the blocks of one picture in order.
DESIGN CHOICE, safe (log 31): the block encoding is not described (R154). -/
opaque Config.mixedPicture : List (Option BlockFrame) → Picture

/-- By how much one step of strength raises the contrast of an edge (R110: "in proportion to s"). DESIGN CHOICE,
safe (log 36): the spec gives no amount. -/
opaque Config.contrastGain : Byte → ℕ+

/-- How far the transaction had come when the clock was held for the n-th time: the conditions and whole bytes that
had gone over the bus after the start, and what the device would give to a read. DESIGN CHOICE, safe (log 38): the clock may be held "at any point"
(R168). -/
opaque Config.heldClock : Nat → Nat × Vector Byte 8

end Sys2Proof
end

