-- ==== Sys2Proof/Machine/Flags.lean ====
section
/-! DEFINITION. The attention flags and the attention line (R183, R184). -/

namespace Sys2Proof.Machine

/-- The bit number of a flag (R183). -/
def Flag.bit : Flag → Nat
  | .settled => 0
  | .recalled => 1
  | .unmatched => 2
  | .freezeDone => 3
  | .freezeAborted => 4
  | .stillFull => 5
  | .commitDone => 6
  | .loadDone => 7
  | .opFailed => 8
  | .retired => 9
  | .bridgeDone => 10
  | .focusDone => 11
  | .linkError => 12
  | .overrun => 13
  | .replyReady => 14
  | .sensorLost => 15
  | .quality => 16
  | .strmStalled => 17
  | .lensFault => 18

/-- The set that holds this flag alone. -/
def Flag.only (f : Flag) : FlagSet := BitVec.twoPow 19 f.bit

/-- The condition flags, bits 15 to 18 (R183). -/
def conditionFlags : FlagSet := 0x78000

/-- The event flags, bits 0 to 14 (R183). -/
def eventFlags : FlagSet := 0x07FFF

/-- Sets, or raises, a flag (R183). -/
def State.setFlag (s : State) (f : Flag) : State :=
  { s with link := { s.link with status := s.link.status ||| f.only } }

/-- Clears the flags of a set (R183). -/
def State.clearFlags (s : State) (m : FlagSet) : State :=
  { s with link := { s.link with status := s.link.status &&& ~~~m } }

/-- Whether a flag is set (R183). -/
def State.hasFlag (s : State) (f : Flag) : Bool := s.link.status.getLsbD f.bit

/-- The attention line: asserted exactly when some flag is set whose mask bit is set (R184). -/
def State.attentionLine (s : State) : Bool := s.link.status &&& s.link.mask != 0

end Sys2Proof.Machine
end

