-- ==== Sys2Proof/Machine/Operands.lean ====
section
/-! DEFINITION. The operand forms of commands: levels, handles, lesson numbers, view sets, coded values, and
the lists of checks a command makes in order. -/

namespace Sys2Proof

/-- PRESENTER 0, OWNER 1, ADMIN 2 (00_scope.md "Levels"). -/
def Level.rank : Level → Nat
  | .presenter => 0
  | .owner => 1
  | .admin => 2

/-- The level with a number of 0..2 (R176); a greater number is refused before this is read. -/
def Level.ofNum : Nat → Level
  | 0 => .presenter
  | 1 => .owner
  | _ => .admin

/-- Whether a telegram at this level passes a lock (00_scope.md "Levels"). -/
def Level.passes (lvl lock : Level) : Bool := decide (lock.rank ≤ lvl.rank)

/-- The greater of two levels (R20, R36). -/
def Level.max (a b : Level) : Level := if a.rank ≤ b.rank then b else a

/-- Whether the code names no value. -/
def Code.bad {α : Type} : Code α → Bool
  | .val _ => false
  | .other => true

/-- The named value, or a default where a check has refused the code already. -/
def Code.getD {α : Type} (d : α) : Code α → α
  | .val a => a
  | .other => d

/-- Whether an optional item is named with a code outside its values. -/
def badItem {α : Type} : Option (Code α) → Bool
  | some c => c.bad
  | none => false

/-- The value of a named item, or the value that stands. -/
def itemOr {α : Type} (item : Option (Code α)) (old : α) : α :=
  match item with
  | some c => c.getD old
  | none => old

/-- An optional field after an optional edit (R15, R36). -/
def editOr {α : Type} (item : Option (Edit α)) (old : Option α) : Option α :=
  match item with
  | some .clear => none
  | some (.put a) => some a
  | none => old

/-- A label is 1..24 printable characters, 0x20..0x7E (R4). A length outside 1..24 is refused like a
character outside the range (DEDUCED, safe, log 13). -/
def badLabel (l : List Byte) : Bool :=
  l.isEmpty || decide (24 < l.length) || l.any fun c => decide (c.toNat < 0x20) || decide (0x7E < c.toNat)

/-- Whether a sensor point lies outside the sensor (R15). -/
def Point.bad (p : Point) : Bool := decide (4095 < p.x) || decide (3071 < p.y)

/-- Whether any of four corners lies outside the sensor (R15). -/
def Corners.bad (c : Corners) : Bool := c.tl.bad || c.tr.bad || c.br.bad || c.bl.bad

/-- Whether a zoom lies outside 256..2048 (00_scope.md "Zoom units"). -/
def badZoom (z : Nat) : Bool := decide (z < 256) || decide (2048 < z)

/-- Whether a page coordinate lies outside 0..4095 (00_scope.md "Page units"). -/
def badCoord (v : Nat) : Bool := decide (4095 < v)

/-- Whether a zoom preset is out of range (R15). -/
def Preset.bad (p : Preset) : Bool := badZoom p.zoom || badCoord p.x || badCoord p.y

/-- Whether an edit puts a value the test refuses. -/
def badEdit {α : Type} (bad : α → Bool) : Option (Edit α) → Bool
  | some (.put a) => bad a
  | _ => false

/-- Whether an optional number lies outside lo..hi. -/
def outside (lo hi : Nat) : Option Nat → Bool
  | some n => decide (n < lo) || decide (hi < n)
  | none => false

/-- Whether a lesson number lies outside 1..8 (R34). -/
def badLesson (n : Nat) : Bool := decide (n < 1) || decide (8 < n)

/-- The place of a lesson number 1..8 in the Lesson Table. -/
def lessonIdx (n : Nat) : Fin 8 := Fin.ofNat 8 (n - 1)

/-- The place of a record index 0..63 in the Page Table. -/
def recIdx (n : Nat) : Fin 64 := Fin.ofNat 64 n

/-- The record a handle's index names. -/
def PageRef.record (h : PageRef) : Fin 64 := recIdx h.idx.toNat

/-- Whether a handle's index is above 63 (R3). -/
def PageRef.badIndex (h : PageRef) : Bool := decide (63 < h.idx.toNat)

/-- The number of a view (R115). -/
def ViewId.num : ViewId → Nat
  | .proj => 1
  | .strm => 2
  | .panel => 3

/-- The three views in the order of their numbers. -/
def ViewId.all : List ViewId := [.proj, .strm, .panel]

/-- Whether the view with this name is in the set: bit v - 1 for view v (R176). -/
def ViewId.inSet (vs : ViewSet) (v : ViewId) : Bool := vs.getLsbD (v.num - 1)

/-- The views of a set, lowest number first (R116). -/
def viewsOf (vs : ViewSet) : List ViewId := ViewId.all.filter (ViewId.inSet vs)

/-- The lowest-numbered view of a set that is not empty (R116). -/
def lowestView (vs : ViewSet) : ViewId := (viewsOf vs).headD .proj

end Sys2Proof

namespace Sys2Proof.Machine

/-- One check: whether it fails, and the code it refuses with. -/
abbrev Check := Bool × ResultCode

/-- The code of the first check that fails, if any: a command stops at its first failure (R8). -/
def firstFailure : List Check → Option ResultCode
  | [] => none
  | (true, c) :: _ => some c
  | (false, _) :: rest => firstFailure rest

/-- The checks of a view set: a number outside 1..3 is RANGE, an empty set is TARGET (R116). -/
def setChecks (vs : ViewSet) : List Check :=
  [(decide (8 ≤ vs.toNat), .range), ((viewsOf vs).isEmpty, .target)]

/-- The fixed lock of OWNER that some commands carry (R87, R100). -/
def ownerCheck (lvl : Level) : Check := (!lvl.passes .owner, .locked)

/-- What a block's execution of a telegram gives: the state after it, and the answer (R180). -/
abbrev Result := State × Answer

/-- A refusal: nothing changes (R8). -/
def refuse (s : State) (c : ResultCode) : Result := (s, ⟨c, .empty⟩)

/-- Done, with no reply payload. -/
def done (s : State) : Result := (s, ⟨.ok, .empty⟩)

/-- Done, with a reply payload. -/
def doneWith (s : State) (b : ReplyBody) : Result := (s, ⟨.ok, b⟩)

/-- A long operation started (00_scope.md "Long operations"). -/
def accepted (s : State) (b : ReplyBody) : Result := (s, ⟨.accepted, b⟩)

/-- Refused by the first failing check, or else carried out. -/
def guarded (s : State) (checks : List Check) (act : Result) : Result :=
  match firstFailure checks with
  | some c => refuse s c
  | none => act

/-- A state with the answer of the latest executed telegram kept for the Control Link (log 1). -/
def State.withAnswer (s : State) (a : Answer) : State :=
  { s with link := { s.link with answer := some a } }

/-- The outcome of a telegram command's step. -/
def conclude (r : Result) : Host.Outcome State Fault Refusal := .next (r.1.withAnswer r.2)

end Sys2Proof.Machine
end

