-- ==== Sys2Proof/Machine/Ops.lean ====
section
/-! DEFINITION. The operations the blocks share: reads and writes of the tables, reference counts and holds,
still release, retiring, lesson orders and staging. -/

namespace Sys2Proof.Machine

/-! ### Reading and writing the tables -/

/-- The value kept for a view. -/
def Trio.get {α : Type} (t : Trio α) : ViewId → α
  | .proj => t.proj
  | .strm => t.strm
  | .panel => t.panel

/-- Replaces the value kept for a view. -/
def Trio.set {α : Type} (t : Trio α) (v : ViewId) (a : α) : Trio α :=
  match v with
  | .proj => { t with proj := a }
  | .strm => { t with strm := a }
  | .panel => { t with panel := a }

/-- Record i of the Page Table. -/
def State.page (s : State) (i : Fin 64) : Record := s.records[i]

/-- Lesson l of the Lesson Table. -/
def State.lesson (s : State) (l : Fin 8) : Lesson := s.lessons[l]

/-- Slot k of the Still Store. -/
def State.slot (s : State) (k : Fin 24) : Slot := s.slots[k]

/-- The context of a view. -/
def State.view (s : State) (v : ViewId) : ViewCtx := s.views.get v

/-- The port of a view. -/
def State.port (s : State) (v : ViewId) : PortCtx := s.ports.get v

/-- Rewrites record i. -/
def State.modPage (s : State) (i : Fin 64) (f : Record → Record) : State :=
  { s with records := s.records.set i (f (s.page i)) }

/-- Rewrites lesson l. -/
def State.modLesson (s : State) (l : Fin 8) (f : Lesson → Lesson) : State :=
  { s with lessons := s.lessons.set l (f (s.lesson l)) }

/-- Rewrites slot k. -/
def State.modSlot (s : State) (k : Fin 24) (f : Slot → Slot) : State :=
  { s with slots := s.slots.set k (f (s.slot k)) }

/-- Rewrites a view context. -/
def State.modView (s : State) (v : ViewId) (f : ViewCtx → ViewCtx) : State :=
  { s with views := s.views.set v (f (s.view v)) }

/-- Rewrites a port. -/
def State.modPort (s : State) (v : ViewId) (f : PortCtx → PortCtx) : State :=
  { s with ports := s.ports.set v (f (s.port v)) }

/-- The handle of record i: its index with its present generation. -/
def State.handleOf (s : State) (i : Fin 64) : Handle := ⟨i, (s.page i).gen⟩

/-! ### Handles and locks (R3, R8) -/

/-- Whether a handle is current: index, generation and state OPEN (R3). -/
def State.isCurrent (s : State) (h : PageRef) : Bool :=
  !h.badIndex && h.gen == (s.page h.record).gen && (s.page h.record).st == .opened

/-- The checks of a read: the index, then the current handle (R8 steps 2 and 4). -/
def State.readChecks (s : State) (h : PageRef) : List Check :=
  [(h.badIndex, .range), (!s.isCurrent h, .stale)]

/-- Whether the record's lesson is COMMITTING (R8 step 6). -/
def State.inCommit (s : State) (i : Fin 64) : Bool :=
  match (s.page i).lesson with
  | some l => (s.lesson l).st == .committing
  | none => false

/-- The lock and commit checks every record edit makes of its record (R8 steps 5 and 6), with the level the
lock rule asks for. -/
def State.memberChecks (s : State) (lvl need : Level) (i : Fin 64) : List Check :=
  [(!lvl.passes need, .locked), (s.inCommit i, .busy)]

/-- Steps 2 to 6 of R8. Record 0 is refused TARGET where the command is one of R6. -/
def State.editChecks (s : State) (lvl : Level) (zeroRefused : Bool) (h : PageRef) : List Check :=
  [(h.badIndex, .range), (zeroRefused && h.record == 0, .target), (!s.isCurrent h, .stale)]
    ++ s.memberChecks lvl (s.page h.record).setup.lock h.record

/-! ### Dirty flags (R9) -/

/-- Marks a lesson dirty (R31). -/
def State.dirtyLesson (s : State) (l : Fin 8) : State := s.modLesson l fun x => { x with dirty := true }

/-- A write of a saved field of a record: the record and its lesson become dirty (R9). Record 0 never does
(R6). -/
def State.touch (s : State) (i : Fin 64) : State :=
  if i = 0 then s
  else
    let t := s.modPage i fun r => { r with dirty := true }
    match (s.page i).lesson with
    | some l => t.dirtyLesson l
    | none => t

/-- Writes saved fields of record i (R9). -/
def State.editSetup (s : State) (i : Fin 64) (f : Setup → Setup) : State :=
  (s.modPage i fun r => { r with setup := f r.setup }).touch i

/-! ### Selection refs and cycle refs (R24) -/

/-- The record a selection names. -/
def Selection.page? : Selection → Option (Fin 64)
  | .page h => some h.idx
  | _ => none

/-- The record a fallback names. -/
def Fallback.page? : Fallback → Option (Fin 64)
  | .page h => some h.idx
  | _ => none

/-- The record a show-cycle entry names. -/
def EntrySel.page? : EntrySel → Option (Fin 64)
  | .page h => some h.idx
  | _ => none

/-- Adds one to the selection refs of the record named, if any. -/
def State.addSel (s : State) : Option (Fin 64) → State
  | some i => s.modPage i fun r => { r with selRefs := r.selRefs + 1 }
  | none => s

/-- Takes one from the selection refs of the record named, if any. -/
def State.dropSel (s : State) : Option (Fin 64) → State
  | some i => s.modPage i fun r => { r with selRefs := r.selRefs - 1 }
  | none => s

/-- Adds one to the cycle refs of the record named, if any. -/
def State.addCyc (s : State) : Option (Fin 64) → State
  | some i => s.modPage i fun r => { r with cycRefs := r.cycRefs + 1 }
  | none => s

/-- Takes one from the cycle refs of the record named, if any. -/
def State.dropCyc (s : State) : Option (Fin 64) → State
  | some i => s.modPage i fun r => { r with cycRefs := r.cycRefs - 1 }
  | none => s

/-- A field that named `a` now names `b`: the selection refs move, and stand where both are the same
record (R24, R119). -/
def State.moveSel (s : State) (a b : Option (Fin 64)) : State :=
  if a = b then s else (s.dropSel a).addSel b

/-- A show-cycle entry that named `a` now names `b` (R24, R151). -/
def State.moveCyc (s : State) (a b : Option (Fin 64)) : State :=
  if a = b then s else (s.dropCyc a).addCyc b

/-- A write of a view's staged selection (R118, R119). -/
def State.stage (s : State) (v : ViewId) (sel : Selection) : State :=
  (s.moveSel (s.view v).staged.sel.page? sel.page?).modView v fun c =>
    { c with staged := { c.staged with sel := sel } }

/-- Stages a selection into the view if its staged follow flag is set. -/
def State.stageIfFollowing (s : State) (v : ViewId) (sel : Selection) : State :=
  if (s.view v).staged.follow then s.stage v sel else s

/-- Stages a selection into every view whose staged follow flag is set (R44, R77, R94, R95). -/
def State.stageFollowing (s : State) (sel : Selection) : State :=
  ((s.stageIfFollowing .proj sel).stageIfFollowing .strm sel).stageIfFollowing .panel sel

/-! ### Slots (R49, R52, R53, R57, R60) -/

/-- A slot becomes FREE and its blocks return (R49). -/
def State.freeSlot (s : State) (k : Fin 24) : State :=
  { s.modSlot k fun x =>
      { x with st := .free, blocks := 0, record := none, source := none, phase := none, capture := none,
               picture := none } with
    freeBlocks := s.freeBlocks + (s.slot k).blocks }

/-- A READY slot is released from its record: FREE with holds 0, RELEASED otherwise (R52). -/
def State.releaseSlot (s : State) (k : Fin 24) : State :=
  if (s.slot k).holds = 0 then s.freeSlot k
  else s.modSlot k fun x => { x with st := .released, record := none }

/-- Record i's still, if any, is released (R52). -/
def State.releaseStill (s : State) (i : Fin 64) : State :=
  match (s.page i).still with
  | some k => (s.modPage i fun r => { r with still := none }).releaseSlot k
  | none => s

/-- The fill pending on record i, if any, is aborted (R60). -/
def State.abortFill (s : State) (i : Fin 64) : State :=
  match (s.page i).fill with
  | some k => ((s.modPage i fun r => { r with fill := none }).freeSlot k).setFlag .freezeAborted
  | none => s

/-- The slots that are FILLING from this source, lowest number first. -/
def State.fillsFrom (s : State) (src : FillSource) : List (Fin 24) :=
  (List.finRange 24).filter fun k => (s.slot k).st == .filling && (s.slot k).source == some src

/-- Aborts the fill in slot k at its record (R60). -/
def State.abortSlot (s : State) (k : Fin 24) : State :=
  match (s.slot k).record with
  | some h => s.abortFill h.idx
  | none => s

/-- Aborts every fill from this source (R60). -/
def State.abortFills (s : State) (src : FillSource) : State := (s.fillsFrom src).foldl State.abortSlot s

/-- The FREE slot with the lowest number (R57). -/
def State.lowestFreeSlot (s : State) : Option (Fin 24) :=
  (List.finRange 24).find? fun k => (s.slot k).st == .free

/-- The number of FREE slots (R64, R162). -/
def State.freeSlotCount (s : State) : Nat :=
  ((List.finRange 24).filter fun k => (s.slot k).st == .free).length

/-- Slot k becomes FILLING for record i, which takes it as its fill pending (R57, R63). -/
def State.startFill (s : State) (k : Fin 24) (i : Fin 64) (src : FillSource) (phase : Option FillPhase)
    (f : Slot → Slot) : State :=
  { (s.modSlot k fun x =>
        { f x with st := .filling, holds := 0, record := some (s.handleOf i), source := some src,
                   phase := phase, capture := none, picture := none }).modPage i fun r =>
      { r with fill := some k } with
    freeBlocks := s.freeBlocks - (f (s.slot k)).blocks }

/-- A fill completes with this picture and light level: the slot becomes the record's still, the previous
still is released, the record becomes dirty and FREEZE_DONE is set (R59). -/
def State.completeFill (s : State) (k : Fin 24) (picture : Picture) (light : Fin 16) : State :=
  match (s.slot k).record with
  | some h =>
    let t := s.releaseStill h.idx
    let t := t.modSlot k fun x =>
      { x with st := .ready, source := none, phase := none, capture := none, picture := some picture,
               light := light }
    let t := t.modPage h.idx fun r => { r with still := some k, fill := none }
    (t.touch h.idx).setFlag .freezeDone
  | none => s

/-! ### Records becoming FREE, holds (R1, R25, R27, R51, R53) -/

/-- Record i becomes FREE: its still is released, its fields are blank, its generation stays (R1). -/
def State.freeRecord (s : State) (i : Fin 64) : State :=
  (s.releaseStill i).modPage i fun r => Record.blank r.gen

/-- The FREE record with the lowest index in 1..63 (R2). -/
def State.lowestFree (s : State) : Option (Fin 64) :=
  (List.finRange 64).find? fun i => i != 0 && (s.page i).st == .free

/-- The number of FREE records among 1..63 (R162). -/
def State.freeRecordCount (s : State) : Nat :=
  ((List.finRange 64).filter fun i => i != 0 && (s.page i).st == .free).length

/-- Record i is allocated in a state: blank, its generation one further (R2, R5). -/
def State.allocate (s : State) (i : Fin 64) (st : RecState) (dirty : Bool) : State :=
  s.modPage i fun r => { Record.blank (r.gen + 1) with st := st, dirty := dirty }

/-- Takes one hold on a record (R25). -/
def State.holdRecord (s : State) (i : Fin 64) : State := s.modPage i fun r => { r with holds := r.holds + 1 }

/-- Takes one hold on a slot (R51). -/
def State.holdSlot (s : State) (k : Fin 24) : State := s.modSlot k fun x => { x with holds := x.holds + 1 }

/-- Releases one hold of a slot; a RELEASED slot left without holds becomes FREE (R53). -/
def State.unholdSlot (s : State) (k : Fin 24) : State :=
  let t := s.modSlot k fun x => { x with holds := x.holds - 1 }
  if (t.slot k).st = .released ∧ (t.slot k).holds = 0 then t.freeSlot k else t

/-- Releases one hold of a record; a RETIRING record left without holds becomes FREE and RETIRED is set
(R27). -/
def State.unholdRecord (s : State) (i : Fin 64) : State :=
  let t := s.modPage i fun r => { r with holds := r.holds - 1 }
  if (t.page i).st = .retiring ∧ (t.page i).holds = 0 then (t.freeRecord i).setFlag .retired else t

/-- Takes the holds of a frame's source (R137 step 4). -/
def State.takeHolds (s : State) (src : Source) : State :=
  let t := match src.record with
    | some h => s.holdRecord h.idx
    | none => s
  match src.slot with
  | some k => t.holdSlot k
  | none => t

/-- Releases the holds of a frame's source as one release: the slot's hold is lowered before a deferred
retire is completed (R51, R138 step 1). -/
def State.releaseHolds (s : State) (src : Source) : State :=
  let t := match src.slot with
    | some k => s.unholdSlot k
    | none => s
  match src.record with
  | some h => t.unholdRecord h.idx
  | none => t

/-! ### Lesson orders and cursors (R32, R33) -/

/-- The cursor after an insertion at p (R33). -/
def cursorInsert (c : Option Nat) (p : Nat) : Option Nat := c.map fun c => if p ≤ c then c + 1 else c

/-- The cursor after a removal at p that leaves n entries (R33). -/
def cursorRemove (c : Option Nat) (p n : Nat) : Option Nat :=
  match c with
  | none => none
  | some c =>
    if p < c then some (c - 1)
    else if c < p then some c
    else if c < n then some c
    else if 0 < n then some (n - 1)
    else none

/-- The cursor after a move from a to b (R33). -/
def cursorMove (c : Option Nat) (a b : Nat) : Option Nat :=
  c.map fun c =>
    if c = a then b
    else if a < c ∧ c ≤ b then c - 1
    else if b ≤ c ∧ c < a then c + 1
    else c

/-- An insertion of record i into lesson l at p (R32, R33). -/
def State.insertEntry (s : State) (l : Fin 8) (i : Fin 64) (p : Nat) : State :=
  (s.modLesson l fun x =>
      { x with order := x.order.insertIdx p i, cursor := cursorInsert x.cursor p, dirty := true }).modPage i
    fun r => { r with lesson := some l, dirty := true }

/-- A removal of record i from position p of lesson l (R32, R33). -/
def State.removeEntry (s : State) (l : Fin 8) (i : Fin 64) (p : Nat) : State :=
  (s.modLesson l fun x =>
      { x with order := x.order.eraseIdx p, cursor := cursorRemove x.cursor p (x.order.eraseIdx p).length,
               dirty := true }).modPage i
    fun r => { r with lesson := none, dirty := true }

/-- The record at position p of lesson l, or record 0 where there is none. -/
def State.entryAt (s : State) (l : Fin 8) (p : Nat) : Fin 64 := (s.lesson l).order.getD p 0

/-- The position of record i in its lesson's order (R28, R32). -/
def State.positionOf (s : State) (i : Fin 64) : Option Nat :=
  match (s.page i).lesson with
  | some l => (s.lesson l).order.idxOf? i
  | none => none

/-- Takes record i out of its lesson, if it belongs to one (R26 step 1, R38). -/
def State.leaveLesson (s : State) (i : Fin 64) : State :=
  match (s.page i).lesson with
  | some l =>
    match (s.lesson l).order.idxOf? i with
    | some p => s.removeEntry l i p
    | none => s.modPage i fun r => { r with lesson := none }
  | none => s

/-- A lesson becomes ABSENT, keeping stored and lost; an active lesson that does becomes absent as the active
lesson (R29, R34). -/
def State.makeAbsent (s : State) (l : Fin 8) : State :=
  { s.modLesson l fun x => Lesson.absent x.stored x.lost with
    active := if s.active = some l then none else s.active }

/-! ### Retiring (R26) -/

/-- The generation of record i advances by one, with the generation its still's slot names (R26 step 3,
R64). -/
def State.advanceGen (s : State) (i : Fin 64) : State :=
  let t := s.modPage i fun r => { r with gen := r.gen + 1 }
  match (s.page i).still with
  | some k => t.modSlot k fun x => { x with record := some (t.handleOf i) }
  | none => t

/-- Retires record i, whose checks have passed: out of its lesson, its fill aborted, its generation advanced,
then FREE with holds 0 and RETIRING otherwise (R26). -/
def State.retire (s : State) (i : Fin 64) : State :=
  let t := ((s.leaveLesson i).abortFill i).advanceGen i
  if (s.page i).holds = 0 then t.freeRecord i else t.modPage i fun r => { r with st := .retiring }

/-! ### Groups (R22, R23) -/

/-- The member set of a group or of all pages: OPEN records of 1..63, ascending (R22). -/
def State.membersOf (s : State) (p : Record → Bool) : List (Fin 64) :=
  (List.finRange 64).filter fun i => i != 0 && (s.page i).st == .opened && p (s.page i)

/-- The tally a group command keeps while it treats its members (R23). -/
structure Tally where
  s : State
  applied : Nat
  refused : Nat
  first : Option (Fin 64 × ResultCode)

/-- Treats one member: it takes the command, or refuses it and is left unchanged (R22). -/
def Tally.treat (checks : State → Fin 64 → List Check) (act : State → Fin 64 → State) (t : Tally)
    (i : Fin 64) : Tally :=
  match firstFailure (checks t.s i) with
  | some c => { t with refused := t.refused + 1, first := t.first.or (some (i, c)) }
  | none => { t with s := act t.s i, applied := t.applied + 1 }

/-- The result code of a group reply (R23). -/
def Tally.code (t : Tally) : ResultCode :=
  match t.first with
  | none => .ok
  | some (_, c) => if t.applied = 0 then c else .partialDone

/-- The group reply (R23). -/
def Tally.answer (t : Tally) : Answer := ⟨t.code, .group t.applied t.refused t.first⟩

/-- Treats the members in ascending index order (R22). -/
def State.runGroup (s : State) (members : List (Fin 64)) (checks : State → Fin 64 → List Check)
    (act : State → Fin 64 → State) : Result :=
  let t := members.foldl (Tally.treat checks act) ⟨s, 0, 0, none⟩
  (t.s, t.answer)

/-- A command that accepts a record, a group or all pages. `zeroRefused` says that record 0 is refused
TARGET (R6); `payload` are its payload checks, made once (R22); `checks` are R8's steps 5 to 7 for one
record. -/
def State.runMembers (s : State) (target : Members) (zeroRefused : Bool) (payload : List Check)
    (checks : State → Fin 64 → List Check) (act : State → Fin 64 → State) : Result :=
  match target with
  | .page h =>
    guarded s
      (payload ++ [(h.badIndex, .range), (zeroRefused && h.record == 0, .target), (!s.isCurrent h, .stale)]
        ++ checks s h.record)
      (done (act s h.record))
  | .group g =>
    match firstFailure (payload ++ [(decide (g < 1) || decide (8 < g), .range)]) with
    | some c => (s, ⟨c, .group 0 0 none⟩)
    | none => s.runGroup (s.membersOf fun r => r.setup.groups.getLsbD (g - 1)) checks act
  | .allPages =>
    match firstFailure payload with
    | some c => (s, ⟨c, .group 0 0 none⟩)
    | none => s.runGroup (s.membersOf fun _ => true) checks act

/-! ### Sets of quality flags (R79) -/

/-- Whether the set holds any flag (R80). -/
def Quality.any (q : Quality) : Bool := q.focusLow || q.dark || q.bright || q.glare

/-- The union of two sets of quality flags (R80). -/
def Quality.union (a b : Quality) : Quality :=
  ⟨a.focusLow || b.focusLow, a.dark || b.dark, a.bright || b.bright, a.glare || b.glare⟩

end Sys2Proof.Machine
end

