-- ==== Sys2Proof/Machine/Lens.lean ====
section
/-! DEFINITION. The Lens Bus Bridge: its two requesters, the arbiter, the ends of transactions and the host's
bridge commands (R168 to R175), with the lamp and focus acts those ends make (R83, R85, R86). -/

namespace Sys2Proof

open Machine

/-- Whether a LENS.SETUP payload names no item (R170). -/
def LensForm.isEmpty (f : LensForm) : Bool :=
  f.lensAddr.isNone && f.lampAddr.isNone && f.autoLamp.isNone && f.autoFocus.isNone && f.rate.isNone

/-- Whether an item of a LENS.SETUP payload is out of range (R170). -/
def LensForm.bad (f : LensForm) : Bool :=
  outside 0 0x7F f.lensAddr || outside 0 0x7F f.lampAddr || badItem f.autoLamp || badItem f.autoFocus
    || badItem f.rate

end Sys2Proof

namespace Sys2Proof.Machine

/-- Rewrites the Lens Bus Bridge. -/
def State.modLens (s : State) (f : Lens → Lens) : State := { s with lens := f s.lens }

/-- Rewrites the Page Finder. -/
def State.modFinder (s : State) (f : Finder → Finder) : State := { s with pfd := f s.pfd }

/-! ### Transactions and the bus they go over (R168, R171) -/

/-- The register of an AUTO request (R171). -/
def AutoKind.reg : AutoKind → Byte
  | .lampSet .. => 0x00
  | .focusStart => 0x10
  | .focusPoll => 0x11

/-- What an AUTO request writes or reads (R171, R81, R84, R85). -/
def AutoKind.act : AutoKind → BusAct
  | .lampSet level _ => .write [BitVec.ofNat 8 level.val]
  | .focusStart => .write [0x01]
  | .focusPoll => .read 1

/-- The transaction of an AUTO request (R171). -/
def AutoReq.transaction (r : AutoReq) : Transaction := ⟨r.addr, r.kind.reg, r.kind.act⟩

/-- The transaction of a bridge request (R174). -/
def BridgeReq.transaction (r : BridgeReq) : Transaction := ⟨r.addr, r.reg, r.kind⟩

/-- The bytes a read receives, of those the device gives: the part acknowledges each but the last (R168). -/
def receivedBytes (data : Vector Byte 8) (count : Nat) : List BusEvent :=
  (List.range count).map fun i => .received (data.toList.getD i 0) (decide (i + 1 < count))

/-- What goes over the bus in a transaction whose every byte is acknowledged (R168). -/
def Transaction.events (t : Transaction) (data : Vector Byte 8) : List BusEvent :=
  [.start, .address t.addr .write, .sent t.reg]
    ++ (match t.act with
      | .write bytes => bytes.map .sent
      | .read count => [.restart, .address t.addr .read] ++ receivedBytes data count)
    ++ [.stop]

/-- Whether the device must acknowledge this event (R168). -/
def BusEvent.needsAck : BusEvent → Bool
  | .address .. => true
  | .sent _ => true
  | _ => false

/-- How many bytes the device must acknowledge: all of a write, three of a read (R168). -/
def Transaction.acksNeeded (t : Transaction) : Nat :=
  match t.act with
  | .write bytes => 2 + bytes.length
  | .read _ => 3

/-- Events of which the device acknowledges the first n of those it must: at the next one the part sends a stop
and transfers no further byte (R168). -/
def untilNack : Nat → List BusEvent → List BusEvent
  | _, [] => []
  | n, e :: rest =>
    if e.needsAck then
      match n with
      | 0 => [e, .stop]
      | n + 1 => e :: untilNack n rest
    else e :: untilNack n rest

/-- Events cut short n events after the start, at any point before the stop, with the stop the part sends once the
clock is released (R168). DESIGN CHOICE, unsafe (log 37): the bits of a byte cut in its middle are not shown. -/
def untilHeld (n : Nat) (events : List BusEvent) : List BusEvent := events.dropLast.take (n + 1) ++ [.stop]

/-! ### Arbitration (R172) -/

/-- The AUTO transaction begins, at the rate standing: the turn then names BRIDGE (R168, R172). -/
def Lens.beginAuto (x : Lens) : Lens :=
  { x with bus := .autoOnBus, turn := .bridge, carried := x.auto.map fun r => ⟨r.transaction, x.rate⟩ }

/-- The BRIDGE transaction begins, at the rate standing: the turn then names AUTO (R168, R172). -/
def Lens.beginBridge (x : Lens) : Lens :=
  { x with bus := .bridgeOnBus, turn := .auto, carried := x.bridge.map fun r => ⟨r.transaction, x.rate⟩,
           bridge := x.bridge.map fun r => { r with onBus := true } }

/-- The arbiter: on an idle bus the only waiting request goes, or of two the one the turn names (R172). -/
def Lens.arbitrate (x : Lens) : Lens :=
  if x.bus = .idle then
    match x.auto.isSome, x.bridge.isSome with
    | false, false => x
    | true, false => x.beginAuto
    | false, true => x.beginBridge
    | true, true => match x.turn with | .auto => x.beginAuto | .bridge => x.beginBridge
  else x

/-- Queues an AUTO request with the address of its device as it stands, and lets the arbiter act (R171,
R172). -/
def Lens.queueAuto (x : Lens) (k : AutoKind) : Lens :=
  Lens.arbitrate
    { x with auto := some ⟨k, (match k with | .lampSet .. => x.lampAddr | _ => x.lensAddr), false⟩ }

/-- Whether the AUTO slot is free (R81). DESIGN CHOICE, unsafe (log 40): a transaction of the AUTO requester's own that
drains after a soft reset does not hold the slot. -/
def Lens.autoFree (x : Lens) : Bool := x.auto.isNone

/-- Whether a lamp request is outstanding: the AUTO request is one (R81). DESIGN CHOICE, unsafe (log 40): a lamp write
that drains after a soft reset is not outstanding. -/
def Lens.lampOutstanding (x : Lens) : Bool :=
  match x.auto with
  | some ⟨.lampSet .., _, _⟩ => true
  | _ => false

/-! ### LENS.SETUP (R170) -/

/-- An address item, or the address that stands. -/
def addrOr (item : Option Nat) (old : BitVec 7) : BitVec 7 :=
  match item with
  | some n => BitVec.ofNat 7 n
  | none => old

/-- Writes the named items (R170). -/
def Lens.setup (x : Lens) (f : LensForm) : Lens :=
  { x with
    lensAddr := addrOr f.lensAddr x.lensAddr
    lampAddr := addrOr f.lampAddr x.lampAddr
    autoLamp := itemOr f.autoLamp x.autoLamp
    autoFocus := itemOr f.autoFocus x.autoFocus
    rate := itemOr f.rate x.rate }

/-- LENS.SETUP's effect: while auto-lamp is off the lamp counters are held at 0 (R82, R170). -/
def State.lensSetup (s : State) (f : LensForm) : State :=
  let t := s.modLens fun x => x.setup f
  if t.lens.autoLamp then t else t.modFinder fun p => { p with darkCount := 0, brightCount := 0 }

/-- LENS.SETUP at its block (R170). -/
def lensSetupBlock (lvl : Level) (form : LensForm) (s : State) : Result :=
  guarded s
    [(form.isEmpty, .argument), (form.bad, .range),
      (addrOr form.lensAddr s.lens.lensAddr == addrOr form.lampAddr s.lens.lampAddr, .range),
      ownerCheck lvl]
    (done (s.lensSetup form))

/-- LENS.SETUP (R170). -/
def execLensSetup (lvl : Level) (form : LensForm) (s : State) : Host.Outcome State Fault Refusal :=
  conclude (lensSetupBlock lvl form s)

/-! ### Bridge commands (R174, R175) -/

/-- The address of a device (R174). -/
def Lens.addrOf (x : Lens) : Device → BitVec 7
  | .lens => x.lensAddr
  | .lamp => x.lampAddr

/-- Queues a bridge request in phase WAITING and lets the arbiter act (R174). -/
def Lens.queueBridge (x : Lens) (k : BusAct) (d : Device) (reg : Byte) : Lens :=
  Lens.arbitrate { x with bridge := some ⟨k, d, x.addrOf d, reg, false⟩ }

/-- BRIDGE.WRITE at its block (R174). -/
def bridgeWriteBlock (lvl : Level) (form : BridgeWriteForm) (s : State) : Result :=
  guarded s
    [(form.data.isEmpty || decide (8 < form.data.length), .argument), (form.device.bad, .range),
      ownerCheck lvl, (s.lens.bridge.isSome, .busy)]
    (accepted (s.modLens fun x => x.queueBridge (.write form.data) (form.device.getD .lens) form.reg) .empty)

/-- BRIDGE.WRITE (R174). -/
def execBridgeWrite (lvl : Level) (form : BridgeWriteForm) (s : State) : Host.Outcome State Fault Refusal :=
  conclude (bridgeWriteBlock lvl form s)

/-- BRIDGE.READ at its block: `none` is a payload of the wrong length (R174). -/
def bridgeReadBlock (lvl : Level) (form : Option BridgeReadForm) (s : State) : Result :=
  match form with
  | none => refuse s .argument
  | some f =>
    guarded s
      [(f.device.bad || decide (f.count < 1) || decide (8 < f.count), .range), ownerCheck lvl,
        (s.lens.bridge.isSome, .busy)]
      (accepted (s.modLens fun x => x.queueBridge (.read f.count) (f.device.getD .lens) f.reg) .empty)

/-- BRIDGE.READ (R174). -/
def execBridgeRead (lvl : Level) (form : Option BridgeReadForm) (s : State) :
    Host.Outcome State Fault Refusal :=
  conclude (bridgeReadBlock lvl form s)

/-- The phase of the bridge request (R169). -/
def Lens.bridgePhase (x : Lens) : BridgePhase :=
  match x.bridge with
  | none => .none
  | some r => if r.onBus then .onBus else .waiting

/-- What BRIDGE.RESULT returns (R175). -/
def Lens.reply (x : Lens) : BridgeReply where
  phase := x.bridgePhase
  outcome := x.outcome
  buffer := x.buffer
  valid := x.valid
  lensAddr := x.lensAddr
  lampAddr := x.lampAddr
  rate := x.rate
  autoLamp := x.autoLamp
  autoFocus := x.autoFocus
  bus := x.bus
  turn := x.turn

/-- BRIDGE.RESULT at its block (R175). -/
def bridgeResultBlock (s : State) : Result := doneWith s (.bridge s.lens.reply)

/-- BRIDGE.RESULT (R175). -/
def execBridgeResult (s : State) : Host.Outcome State Fault Refusal := conclude (bridgeResultBlock s)

/-! ### Outcomes of AUTO transactions (R83, R84, R85, R86) -/

/-- A focus run ends with an outcome (R86). -/
def State.endRun (s : State) (o : FocusOutcome) : State :=
  (s.modFinder fun p => { p with run := .idle, outcome := o }).setFlag .focusDone

/-- The end of a poll with ACK and this byte: bit 0 is busy, bit 1 is fail (R85). -/
def State.pollEnd (s : State) (b : Byte) : State :=
  if b.getLsbD 1 then s.endRun .failed
  else if b.getLsbD 0 then
    let t := s.modFinder fun p => { p with busyPolls := p.busyPolls + 1 }
    if 30 ≤ t.pfd.busyPolls then t.endRun .timeout else t
  else s.endRun .done

/-- The Page Finder takes the outcome of an AUTO transaction; that of a cancelled run is disregarded (R83,
R84, R85, R86). -/
def State.takeAuto (s : State) (r : AutoReq) (ack : Bool) (b : Byte) : State :=
  match r.kind with
  | .lampSet level sync =>
    if ack then s.modFinder fun p => { p with lamp := level }
    else if sync then s.modFinder fun p => { p with syncPending := true }
    else s
  | .focusStart =>
    if r.orphan then s
    else if ack then s.modFinder fun p => { p with run := .polling }
    else s.endRun .nack
  | .focusPoll =>
    if r.orphan then s
    else if ack then s.pollEnd b
    else s.endRun .nack

/-! ### The end of a transaction (R173) -/

/-- The buffer after a read of `count` bytes: the bytes read, zero beyond them (R173). -/
def readBuffer (data : Vector Byte 8) (count : Nat) : Vector Byte 8 :=
  Vector.ofFn fun i => if i.val < count then data[i] else 0

/-- The outcome of the bridge's transaction (R173). -/
def BridgeReq.outcome (r : BridgeReq) (ack : Bool) : BridgeOutcome :=
  match r.kind with
  | .write data => ⟨ack, .write, r.device, r.reg, data.length⟩
  | .read count => ⟨ack, .read, r.device, r.reg, count⟩

/-- The bridge at the end of its transaction: outcome, and for a read the buffer (R173). -/
def Lens.endBridge (x : Lens) (r : BridgeReq) (ack : Bool) (data : Vector Byte 8) : Lens :=
  let y := { x with bus := .idle, carried := none, bridge := none, outcome := some (r.outcome ack) }
  match r.kind with
  | .write _ => y
  | .read count =>
    if ack then { y with buffer := readBuffer data count, valid := count }
    else { y with buffer := .replicate 8 0, valid := 0 }

/-- The bus becomes IDLE. -/
def Lens.toIdle (x : Lens) : Lens := { x with bus := .idle, carried := none }

/-- The transaction on the bus ends with ACK or NACK and the bytes it read, and these events have gone over the
bus; the arbiter then acts (R168, R172, R173). An end with no transaction on the bus changes nothing (log 4). -/
def State.lensEnd (s : State) (ack : Bool) (data : Vector Byte 8) (lines : List BusEvent) : State :=
  let x := { s.lens with lines := lines }
  match s.lens.bus, s.lens.auto, s.lens.bridge with
  | .draining, _, _ => { s with lens := x.toIdle.arbitrate }
  | .autoOnBus, some r, _ =>
    let t := { s with lens := { x.toIdle with auto := none } }.takeAuto r ack data[0]
    let t := if ack then t else t.setFlag .lensFault
    t.modLens Lens.arbitrate
  | .bridgeOnBus, _, some r =>
    ({ s with lens := x.endBridge r ack data }.setFlag .bridgeDone).modLens Lens.arbitrate
  | _, _, _ => s

/-- The transaction on the bus ends: with ACK where the device acknowledged every byte it had to, with NACK at
the first it did not (R168). -/
def State.transactionEnd (s : State) (acked : Nat) (data : Vector Byte 8) : State :=
  match s.lens.carried with
  | some c => s.lensEnd (decide (c.tx.acksNeeded ≤ acked)) data (untilNack acked (c.tx.events data))
  | none => s

/-- LENS_TRANSACTION_END (R173). -/
def execLensTransactionEnd (acked : Nat) (data : Vector Byte 8) (s : State) :
    Host.Outcome State Fault Refusal :=
  .next (s.transactionEnd acked data)

/-- The clock held low for more than 5 ms ends the transaction with NACK (R168). How far the transaction had come is a
free value (DESIGN CHOICE, safe, log 38). -/
def State.clockHeld (s : State) : State :=
  match s.lens.carried with
  | some c =>
    let (n, data) := Config.heldClock s.lens.heldClocks
    (s.modLens fun x => { x with heldClocks := x.heldClocks + 1 }).lensEnd false data
      (untilHeld n (c.tx.events data))
  | none => s

/-- CLOCK_HOLD_TIMEOUT (R168). -/
def execClockHoldTimeout (s : State) : Host.Outcome State Fault Refusal := .next s.clockHeld

end Sys2Proof.Machine
end

