-- ==== Sys2Proof/Machine/Stills.lean ====
section
/-! DEFINITION. The Still Store's commands and its fills (R54 to R64). -/

namespace Sys2Proof.Machine

/-! ### Freezing -/

/-- The corners that straighten the live page: record 0's when present, otherwise the Page Finder's live
corners (R55, R139). -/
def State.cornerChoice (s : State) : Option Corners := (s.page 0).setup.corners.or s.pfd.liveCorners

/-- A point's x times the next point's y less the next point's x times the point's y (R55). -/
def crossTerm (p q : Point) : Int := (p.x : Int) * q.y - (q.x : Int) * p.y

/-- Twice the area four sensor points enclose, taken in their order (R55). -/
def twiceArea (c : Corners) : Nat :=
  (crossTerm c.tl c.tr + crossTerm c.tr c.br + crossTerm c.br c.bl + crossTerm c.bl c.tl).natAbs

/-- The blocks of a PAGE freeze through these corners: the area over 1,048,576, rounded up, at least 1
(R55). -/
def pageBlocks (c : Corners) : Nat := max 1 ((twiceArea c + 2097151) / 2097152)

/-- The block count of a freeze (R55, R56). With neither choice of corners present, which a SETTLED finder
does not show, the whole sensor picture is the page (DEDUCED, safe, log 25). -/
def State.freezeBlocks (s : State) : FreezeSource → Nat
  | .page =>
    match s.cornerChoice with
    | some c => pageBlocks c
    | none => 12
  | .proj => 3

/-- The source's precondition (R55, R56). -/
def State.freezeReady (s : State) : FreezeSource → Bool
  | .page => s.pfd.st == .settled
  | .proj => s.ports.proj.st == .running

/-- Steps 8 and 9 of R54, which PAGE.SAVE makes too (R13). -/
def State.freezeChecks (s : State) (src : FreezeSource) : List Check :=
  [(!s.freezeReady src, .state), (s.lowestFreeSlot.isNone, .noStill)]

/-- Step 10 of R54: too few free blocks. -/
def State.blocksShort (s : State) (src : FreezeSource) : Bool := decide (s.freeBlocks < s.freezeBlocks src)

/-- A refusal for lack of blocks sets STILL_FULL (R54). -/
def refuseFull (s : State) : Result := refuse (s.setFlag .stillFull) .noStill

/-- The fill source of a freeze (R57). -/
def fillSource : FreezeSource → FillSource
  | .page => .page
  | .proj => .proj

/-- The kind of the still a freeze makes (R55, R56). -/
def stillKind : FreezeSource → StillKind
  | .page => .page
  | .proj => .composed

/-- An accepted freeze on record i takes slot k (R57). DESIGN CHOICE, unsafe (log 34): the slot's kind is written
here, and its light level stays as it was until the fill completes; no rule says when either is written. -/
def State.acceptFreeze (s : State) (i : Fin 64) (k : Fin 24) (src : FreezeSource) : State :=
  s.startFill k i (fillSource src) (some .queued) fun x =>
    { x with blocks := s.freezeBlocks src, kind := stillKind src }

/-- STILL.FREEZE at its block (R54). -/
def stillFreezeBlock (lvl : Level) (page : PageRef) (source : Code FreezeSource) (s : State) : Result :=
  let src := source.getD .page
  match firstFailure ((source.bad, .range) :: s.editChecks lvl true page
      ++ [((s.page page.record).fill.isSome, .busy)] ++ s.freezeChecks src) with
  | some c => refuse s c
  | none =>
    if s.blocksShort src then refuseFull s
    else
      match s.lowestFreeSlot with
      | some k => accepted (s.acceptFreeze page.record k src) (.frozen k (s.freezeBlocks src))
      | none => refuse s .noStill

/-- STILL.FREEZE (R54). -/
def execStillFreeze (lvl : Level) (page : PageRef) (source : Code FreezeSource) (s : State) :
    Host.Outcome State Fault Refusal :=
  conclude (stillFreezeBlock lvl page source s)

/-! ### Dropping -/

/-- STILL.DROP's effect on one record (R62). -/
def State.dropStill (s : State) (i : Fin 64) : State := ((s.abortFill i).releaseStill i).touch i

/-- STILL.DROP at its block (R62). -/
def stillDropBlock (lvl : Level) (target : Members) (s : State) : Result :=
  s.runMembers target true [] (fun t i => t.memberChecks lvl (t.page i).setup.lock i) State.dropStill

/-- STILL.DROP (R62). -/
def execStillDrop (lvl : Level) (target : Members) (s : State) : Host.Outcome State Fault Refusal :=
  conclude (stillDropBlock lvl target s)

/-! ### Reading -/

/-- The record that names a slot and in what role, with the record's present generation (R64). -/
def State.slotOwner (s : State) (k : Fin 24) : Option (Handle × SlotRole) :=
  match (s.slot k).st, (s.slot k).record with
  | .ready, some h => some (s.handleOf h.idx, .still)
  | .filling, some h => some (s.handleOf h.idx, .fill)
  | _, _ => none

/-- What STILL.READ says of slot k (R64). -/
def State.slotReply (s : State) (k : Fin 24) : SlotReply where
  st := (s.slot k).st
  blocks := (s.slot k).blocks
  picture := if (s.slot k).st = .free then none else some ((s.slot k).kind, (s.slot k).light)
  holds := (s.slot k).holds
  owner := s.slotOwner k
  source := if (s.slot k).st = .filling then (s.slot k).source else none
  phase := if (s.slot k).st = .filling then (s.slot k).phase else none

/-- STILL.READ at its block (R64). -/
def stillReadBlock (s : State) : Result :=
  doneWith s (.stills s.freeBlocks s.freeSlotCount ((List.finRange 24).map s.slotReply))

/-- STILL.READ (R64). -/
def execStillRead (s : State) : Host.Outcome State Fault Refusal := conclude (stillReadBlock s)

/-! ### Fills at frame starts and frame ends (R58, R59, R66) -/

/-- The slots FILLING from this source in this phase, lowest number first. -/
def State.fillsIn (s : State) (src : FillSource) (ph : FillPhase) : List (Fin 24) :=
  (s.fillsFrom src).filter fun k => (s.slot k).phase == some ph

/-- Every QUEUED fill of the source becomes CAPTURING on the frame that starts, a PAGE fill with the corners
standing at that start (R55, R58). -/
def State.captureFills (s : State) (src : FillSource) : State :=
  (s.fillsIn src .queued).foldl
    (fun t k => t.modSlot k fun x =>
      { x with phase := some .capturing, capture := if src = .page then s.cornerChoice else none }) s

/-- A captured intake frame turned out incomplete: its fills return to QUEUED (R66). -/
def State.requeueFills (s : State) : State :=
  (s.fillsIn .page .capturing).foldl
    (fun t k => t.modSlot k fun x => { x with phase := some .queued, capture := none }) s

/-- Every PAGE fill CAPTURING on the intake frame that ended complete completes, with that frame straightened
through the corners of its start, and its light measure (R55, R59). -/
def State.completePageFills (s : State) (pixels : Nat) (light : Fin 16) : State :=
  (s.fillsIn .page .capturing).foldl
    (fun t k => t.completeFill k (.straightened pixels (s.slot k).capture) light) s

/-- The light level of a COMPOSED still: the latest light measure, or 0 (R56). -/
def State.composedLight (s : State) : Fin 16 :=
  match s.pfd.latest with
  | some m => m.light
  | none => 0

/-- Every PROJ fill CAPTURING on the PROJ frame that ended completes, with the finished projector picture
(R56, R59). -/
def State.completeProjFills (s : State) (picture : Picture) : State :=
  (s.fillsIn .proj .capturing).foldl (fun t k => t.completeFill k picture s.composedLight) s

end Sys2Proof.Machine
end

