-- ==== Sys2Proof/Machine/Pages.lean ====
section
/-! DEFINITION. The Page Table's commands (R10 to R28). -/

namespace Sys2Proof.Machine

/-- Writes a value to the override of every band of a set (R16). -/
def writeOverrides (v : Vector (Option PageMode) 12) (bands : BitVec 12) (m : Option PageMode) :
    Vector (Option PageMode) 12 :=
  (List.finRange 12).foldl (fun v (b : Fin 12) => if bands.getLsbD b then v.set b m else v) v

/-- Sixteen nibbles as a signature. -/
def signatureOf (l : List Nat) : Signature :=
  ⟨((List.range 16).map fun n => BitVec.ofNat 4 (l.getD n 0)).toArray, by simp⟩

end Sys2Proof.Machine

namespace Sys2Proof

open Machine

/-! ### Payload forms -/

/-- Whether a PAGE.SET payload names no item (R15). -/
def SetForm.isEmpty (f : SetForm) : Bool :=
  f.label.isNone && f.corners.isNone && f.rotation.isNone && f.mirror.isNone && f.preset.isNone

/-- Whether a value of a PAGE.SET payload is out of range (R15). -/
def SetForm.bad (f : SetForm) : Bool :=
  badEdit badLabel f.label || badEdit Corners.bad f.corners || badItem f.rotation || badItem f.mirror
    || badEdit Preset.bad f.preset

/-- Writes the named items (R15). -/
def SetForm.apply (f : SetForm) (x : Setup) : Setup :=
  { x with
    label := editOr f.label x.label
    corners := editOr f.corners x.corners
    rotation := itemOr f.rotation x.rotation
    mirror := itemOr f.mirror x.mirror
    preset := editOr f.preset x.preset }

/-- Whether a PAGE.ZONE payload has neither part, or an override write without a band (R16). -/
def ZoneForm.malformed (f : ZoneForm) : Bool :=
  match f.overrides with
  | some o => o.bands == 0
  | none => f.mode.isNone

/-- Whether a mode or override value is outside its values (R16). -/
def ZoneForm.bad (f : ZoneForm) : Bool :=
  badItem f.mode || (match f.overrides with | some o => o.value.bad | none => false)

/-- Writes the parts (R16). -/
def ZoneForm.apply (f : ZoneForm) (x : Setup) : Setup :=
  { x with
    pageMode := itemOr f.mode x.pageMode
    overrides :=
      match f.overrides with
      | some o => writeOverrides x.overrides o.bands (o.value.getD none)
      | none => x.overrides }

/-- Whether a mark is out of range (R17). -/
def MarkArg.bad (m : MarkArg) : Bool :=
  m.kind.bad || badCoord m.x0 || badCoord m.y0 || badCoord m.x1 || badCoord m.y1
    || !(decide (m.x0 < m.x1)) || !(decide (m.y0 < m.y1))

/-- The mark a payload entry carries. -/
def MarkArg.mark (m : MarkArg) : Mark := ⟨m.kind.getD .spotlight, m.x0, m.y0, m.x1, m.y1⟩

/-- Whether a PAGE.MARKS payload is out of range (R17). -/
def MarksForm.bad (f : MarksForm) : Bool :=
  decide (7 < f.start) || decide (f.count < 1) || decide (8 < f.count) || f.marks.any MarkArg.bad

/-- Whether a signature form has the wrong nibbles after it (R19). -/
def SignForm.malformed (f : SignForm) : Bool :=
  match f.kind with
  | .val .given => f.nibbles.length != 16
  | .val _ => !f.nibbles.isEmpty
  | .other => false

/-- Whether a form, nibble or enable is outside its values (R19). -/
def SignForm.bad (f : SignForm) : Bool :=
  f.kind.bad || f.nibbles.any (fun n => decide (15 < n)) || f.enable.bad

/-- The signature the form gives (R19). -/
def SignForm.signature (f : SignForm) (live : Option Signature) : Option Signature :=
  match f.kind with
  | .val .given => some (signatureOf f.nibbles)
  | .val .live => live
  | _ => none

end Sys2Proof

namespace Sys2Proof.Machine

/-! ### Placement and allocation (R2, R11) -/

/-- The checks of a placement, with the lock that a copy will carry (R11). -/
def State.placementChecks (s : State) (lvl carried : Level) : Option Placement → List Check
  | none => []
  | some p =>
    let l := s.lesson (lessonIdx p.lesson)
    [(badLesson p.lesson, .range), (l.st == .committing, .busy), (l.st != .opened, .state),
      (!lvl.passes l.lock || !lvl.passes carried, .locked), (decide (32 ≤ l.order.length), .full),
      (decide (l.order.length < p.pos), .range)]

/-- A placement that passed its checks is carried out (R11). -/
def State.placeNew (s : State) (i : Fin 64) : Option Placement → State
  | none => s
  | some p => s.insertEntry (lessonIdx p.lesson) i p.pos

/-- An allocating command after its own checks: FULL without a FREE record, or else made on the lowest one
(R2). -/
def State.allocating (s : State) (make : Fin 64 → State) (code : ResultCode) : Result :=
  match s.lowestFree with
  | none => refuse s .full
  | some i => (make i, ⟨code, .handle ((make i).handleOf i)⟩)

/-! ### PAGE.NEW (R10) -/

/-- PAGE.NEW at its block (R10). -/
def pageNewBlock (lvl : Level) (place : Option Placement) (s : State) : Result :=
  guarded s (s.placementChecks lvl .presenter place)
    (s.allocating (fun i => (s.allocate i .opened true).placeNew i place) .ok)

/-- PAGE.NEW (R10). -/
def execPageNew (lvl : Level) (place : Option Placement) (s : State) : Host.Outcome State Fault Refusal :=
  conclude (pageNewBlock lvl place s)

/-! ### PAGE.SAVE (R12, R13) -/

/-- The view with this number (R12); a number outside 1..3 is refused before this is read. -/
def viewOfNum : Nat → ViewId
  | 1 => .proj
  | 2 => .strm
  | _ => .panel

/-- The zoom preset a save takes from a view: its current zoom, and the pan centre of its current half
(R12). -/
def State.presetOf (s : State) (v : ViewId) : Preset :=
  ⟨(s.view v).zoom, (s.view v).current.panX, (s.view v).current.panY⟩

/-- The setup of a saved record: record 0's, with mask all 16, match enable on, and the preset (R12). -/
def State.savedSetup (s : State) (presetView : Option Nat) : Setup :=
  { Setup.blank with
    corners := (s.page 0).setup.corners
    rotation := (s.page 0).setup.rotation
    mirror := (s.page 0).setup.mirror
    pageMode := (s.page 0).setup.pageMode
    overrides := (s.page 0).setup.overrides
    marks := (s.page 0).setup.marks
    signature := (s.page 0).setup.signature
    matchEnable := true
    preset := presetView.map fun n => s.presetOf (viewOfNum n) }

/-- The freeze a save accepts on its new record (R13). -/
def State.saveFreeze (s : State) (i : Fin 64) : Option (Code FreezeSource) → State
  | none => s
  | some src =>
    match s.lowestFreeSlot with
    | some k => s.acceptFreeze i k (src.getD .page)
    | none => s

/-- The freeze checks of a save (R13). -/
def State.saveFreezeChecks (s : State) : Option (Code FreezeSource) → List Check
  | none => []
  | some src => s.freezeChecks (src.getD .page)

/-- Whether a save's freeze fails for lack of blocks alone (R13). -/
def State.saveBlocksShort (s : State) : Option (Code FreezeSource) → Bool
  | none => false
  | some src => s.blocksShort (src.getD .page)

/-- PAGE.SAVE at its block (R12, R13). -/
def pageSaveBlock (lvl : Level) (form : SaveForm) (s : State) : Result :=
  match firstFailure ((outside 1 3 form.presetView || badItem form.freeze, .range)
      :: s.saveFreezeChecks form.freeze) with
  | some c => refuse s c
  | none =>
    if s.saveBlocksShort form.freeze then refuseFull s
    else
      guarded s (s.placementChecks lvl .presenter form.placement)
        (s.allocating
          (fun i =>
            let t := (s.allocate i .opened true).modPage i fun r =>
              { r with setup := s.savedSetup form.presetView }
            (t.saveFreeze i form.freeze).placeNew i form.placement)
          (if form.freeze.isSome then .accepted else .ok))

/-- PAGE.SAVE (R12). -/
def execPageSave (lvl : Level) (form : SaveForm) (s : State) : Host.Outcome State Fault Refusal :=
  conclude (pageSaveBlock lvl form s)

/-! ### PAGE.COPY (R14) -/

/-- PAGE.COPY at its block (R14). -/
def pageCopyBlock (lvl : Level) (src : PageRef) (place : Option Placement) (s : State) : Result :=
  guarded s (s.readChecks src ++ s.placementChecks lvl (s.page src.record).setup.lock place)
    (s.allocating
      (fun i =>
        ((s.allocate i .opened true).modPage i fun r =>
          { r with setup := (s.page src.record).setup }).placeNew i place)
      .ok)

/-- PAGE.COPY (R14). -/
def execPageCopy (lvl : Level) (src : PageRef) (place : Option Placement) (s : State) :
    Host.Outcome State Fault Refusal :=
  conclude (pageCopyBlock lvl src place s)

/-! ### PAGE.SET (R15) -/

/-- PAGE.SET at its block (R15). -/
def pageSetBlock (lvl : Level) (page : PageRef) (form : SetForm) (s : State) : Result :=
  guarded s ([(form.isEmpty, .argument), (form.bad, .range)] ++ s.editChecks lvl false page)
    (done (s.editSetup page.record form.apply))

/-- PAGE.SET (R15). -/
def execPageSet (lvl : Level) (page : PageRef) (form : SetForm) (s : State) :
    Host.Outcome State Fault Refusal :=
  conclude (pageSetBlock lvl page form s)

/-! ### PAGE.ZONE (R16) -/

/-- PAGE.ZONE at its block (R16). -/
def pageZoneBlock (lvl : Level) (target : Members) (form : ZoneForm) (s : State) : Result :=
  s.runMembers target false [(form.malformed, .argument), (form.bad, .range)]
    (fun t i => t.memberChecks lvl (t.page i).setup.lock i) (fun t i => t.editSetup i form.apply)

/-- PAGE.ZONE (R16). -/
def execPageZone (lvl : Level) (target : Members) (form : ZoneForm) (s : State) :
    Host.Outcome State Fault Refusal :=
  conclude (pageZoneBlock lvl target form s)

/-! ### PAGE.MARKS (R17) -/

/-- Writes marks from position `start` on, mark i to position (start + i) mod 8 (R17). -/
def writeMarks (v : Vector (Option Mark) 8) (start : Nat) : List Mark → Vector (Option Mark) 8
  | [] => v
  | m :: rest => writeMarks (v.set (Fin.ofNat 8 start) (some m)) (start + 1) rest

/-- PAGE.MARKS at its block (R17). -/
def pageMarksBlock (lvl : Level) (page : PageRef) (form : MarksForm) (s : State) : Result :=
  guarded s ([(form.marks.length != form.count, .argument), (form.bad, .range)]
      ++ s.editChecks lvl false page)
    (done (s.editSetup page.record fun x =>
      { x with marks := writeMarks x.marks form.start (form.marks.map MarkArg.mark) }))

/-- PAGE.MARKS (R17). -/
def execPageMarks (lvl : Level) (page : PageRef) (form : MarksForm) (s : State) :
    Host.Outcome State Fault Refusal :=
  conclude (pageMarksBlock lvl page form s)

/-! ### PAGE.MARKCLEAR (R18) -/

/-- Empties the positions of a set (R18). -/
def clearMarks (v : Vector (Option Mark) 8) (positions : Byte) : Vector (Option Mark) 8 :=
  (List.finRange 8).foldl (fun v (p : Fin 8) => if positions.getLsbD p then v.set p none else v) v

/-- PAGE.MARKCLEAR at its block (R18). -/
def pageMarkclearBlock (lvl : Level) (target : Members) (positions : Byte) (s : State) : Result :=
  s.runMembers target false [(positions == 0, .range)]
    (fun t i => t.memberChecks lvl (t.page i).setup.lock i)
    (fun t i => t.editSetup i fun x => { x with marks := clearMarks x.marks positions })

/-- PAGE.MARKCLEAR (R18). -/
def execPageMarkclear (lvl : Level) (target : Members) (positions : Byte) (s : State) :
    Host.Outcome State Fault Refusal :=
  conclude (pageMarkclearBlock lvl target positions s)

/-! ### PAGE.SIGN (R19) -/

/-- PAGE.SIGN at its block (R19). -/
def pageSignBlock (lvl : Level) (page : PageRef) (form : SignForm) (s : State) : Result :=
  guarded s ([(form.bad, .range), (form.malformed, .argument)] ++ s.editChecks lvl true page
      ++ [(form.kind == .val .live && s.pfd.liveSig.isNone, .state)])
    (done (s.editSetup page.record fun x =>
      { x with signature := form.signature s.pfd.liveSig, sigMask := form.mask,
               matchEnable := form.enable.getD false }))

/-- PAGE.SIGN (R19). -/
def execPageSign (lvl : Level) (page : PageRef) (form : SignForm) (s : State) :
    Host.Outcome State Fault Refusal :=
  conclude (pageSignBlock lvl page form s)

/-! ### PAGE.LOCK (R20) -/

/-- PAGE.LOCK at its block: the level must be at least the greater of the present and the new lock (R20). -/
def pageLockBlock (lvl : Level) (target : Members) (lock : Nat) (s : State) : Result :=
  s.runMembers target true [(decide (2 < lock), .range)]
    (fun t i => t.memberChecks lvl ((t.page i).setup.lock.max (.ofNum lock)) i)
    (fun t i => t.editSetup i fun x => { x with lock := .ofNum lock })

/-- PAGE.LOCK (R20). -/
def execPageLock (lvl : Level) (target : Members) (lock : Nat) (s : State) :
    Host.Outcome State Fault Refusal :=
  conclude (pageLockBlock lvl target lock s)

/-! ### PAGE.GROUP (R21) -/

/-- PAGE.GROUP at its block (R21). -/
def pageGroupBlock (lvl : Level) (page : PageRef) (groups : Byte) (s : State) : Result :=
  guarded s (s.editChecks lvl true page)
    (done (s.editSetup page.record fun x => { x with groups := groups }))

/-- PAGE.GROUP (R21). -/
def execPageGroup (lvl : Level) (page : PageRef) (groups : Byte) (s : State) :
    Host.Outcome State Fault Refusal :=
  conclude (pageGroupBlock lvl page groups s)

/-! ### PAGE.RETIRE (R26) -/

/-- Whether the lock of the record's lesson refuses this level (R26 check 6). -/
def State.lessonRefuses (s : State) (lvl : Level) (i : Fin 64) : Bool :=
  match (s.page i).lesson with
  | some l => !lvl.passes (s.lesson l).lock
  | none => false

/-- Whether the record has references (R26 check 7). -/
def Record.referenced (r : Record) : Bool := decide (0 < r.selRefs) || decide (0 < r.cycRefs)

/-- PAGE.RETIRE at its block (R26). -/
def pageRetireBlock (lvl : Level) (target : Members) (s : State) : Result :=
  s.runMembers target true []
    (fun t i => t.memberChecks lvl (t.page i).setup.lock i
      ++ [(t.lessonRefuses lvl i, .locked), ((t.page i).referenced, .referenced)])
    State.retire

/-- PAGE.RETIRE (R26). -/
def execPageRetire (lvl : Level) (target : Members) (s : State) : Host.Outcome State Fault Refusal :=
  conclude (pageRetireBlock lvl target s)

/-! ### PAGE.READ (R28) -/

/-- What PAGE.READ returns of record i (R28). -/
def State.pageReply (s : State) (i : Fin 64) : PageReply where
  handle := s.handleOf i
  lesson := (s.page i).lesson
  position := s.positionOf i
  setup := (s.page i).setup
  still := (s.page i).still.map fun k => ⟨k, (s.slot k).kind, (s.slot k).blocks, (s.slot k).light⟩
  fill := (s.page i).fill
  dirty := (s.page i).dirty
  selRefs := (s.page i).selRefs
  cycRefs := (s.page i).cycRefs
  holds := (s.page i).holds

/-- PAGE.READ at its block (R28). -/
def pageReadBlock (page : PageRef) (s : State) : Result :=
  guarded s (s.readChecks page) (doneWith s (.page (s.pageReply page.record)))

/-- PAGE.READ (R28). -/
def execPageRead (page : PageRef) (s : State) : Host.Outcome State Fault Refusal :=
  conclude (pageReadBlock page s)

end Sys2Proof.Machine
end

