-- ==== Sys2Proof/Machine/Lessons.lean ====
section
/-! DEFINITION. The Lesson Table's commands and the presenter's steps (R34 to R47). -/

namespace Sys2Proof

open Machine

/-! ### Payload forms -/

/-- The label and lock checks of LESSON.OPEN and LESSON.SET (R35 check 1). -/
def badLock : Option Nat → Bool := outside 0 2

/-- Whether a LESSON.OPEN payload is out of range (R35). -/
def OpenForm.bad (f : OpenForm) : Bool :=
  (match f.label with | some l => badLabel l | none => false) || badLock f.lock

/-- The lock a LESSON.OPEN payload gives (R35). -/
def OpenForm.level (f : OpenForm) : Level :=
  match f.lock with
  | some n => .ofNum n
  | none => .presenter

/-- Whether a LESSON.SET payload is out of range (R36). -/
def LessonSetForm.bad (f : LessonSetForm) : Bool := badEdit badLabel f.label || badLock f.lock

/-- The level a LESSON.SET needs (R36). -/
def LessonSetForm.need (f : LessonSetForm) (present : Level) : Level :=
  match f.lock with
  | some n => present.max (.ofNum n)
  | none => present

/-- Whether a LESSON.STEP payload carries a position where it may not, or none where it must (R43). -/
def StepForm.malformed (f : StepForm) : Bool :=
  match f.kind with
  | .val .position => f.pos.isNone
  | .val _ => f.pos.isSome
  | .other => false

end Sys2Proof

namespace Sys2Proof.Machine

/-- The checks of a command on an OPEN lesson: number, COMMITTING, state, lock (R36, R37). -/
def State.lessonChecks (s : State) (lvl need : Level) (lesson : Nat) : List Check :=
  [(badLesson lesson, .range), ((s.lesson (lessonIdx lesson)).st == .committing, .busy),
    ((s.lesson (lessonIdx lesson)).st != .opened, .state), (!lvl.passes need, .locked)]

/-- Whether a lesson is OPEN or COMMITTING (R34, R41). -/
def Lesson.present (x : Lesson) : Bool := x.st == .opened || x.st == .committing

/-! ### LESSON.ACTIVATE (R34) -/

/-- LESSON.ACTIVATE at its block: `none` is a NONE target (R34). -/
def lessonActivateBlock (lesson : Option Nat) (s : State) : Result :=
  match lesson with
  | none => done { s with active := none }
  | some n =>
    guarded s [(badLesson n, .range), (!(s.lesson (lessonIdx n)).present, .state)]
      (done { s with active := some (lessonIdx n) })

/-- LESSON.ACTIVATE (R34). -/
def execLessonActivate (lesson : Option Nat) (s : State) : Host.Outcome State Fault Refusal :=
  conclude (lessonActivateBlock lesson s)

/-! ### LESSON.OPEN (R35) -/

/-- The lesson LESSON.OPEN makes of an ABSENT one (R35). -/
def Lesson.open (x : Lesson) (form : OpenForm) : Lesson where
  st := .opened
  label := form.label
  lock := form.level
  stored := false
  lost := x.lost
  dirty := form.label.isSome || form.level != .presenter
  order := []
  cursor := none
  progress := none

/-- LESSON.OPEN at its block (R35). -/
def lessonOpenBlock (lvl : Level) (lesson : Nat) (form : OpenForm) (s : State) : Result :=
  let x := s.lesson (lessonIdx lesson)
  guarded s
    [(form.bad, .range), (badLesson lesson, .range), (x.st == .loading || x.st == .committing, .busy),
      (x.st == .opened, .state), (x.stored, .state), (!lvl.passes form.level, .locked)]
    (done (s.modLesson (lessonIdx lesson) fun x => x.open form))

/-- LESSON.OPEN (R35). -/
def execLessonOpen (lvl : Level) (lesson : Nat) (form : OpenForm) (s : State) :
    Host.Outcome State Fault Refusal :=
  conclude (lessonOpenBlock lvl lesson form s)

/-! ### LESSON.SET (R36) -/

/-- LESSON.SET at its block (R36). -/
def lessonSetBlock (lvl : Level) (lesson : Nat) (form : LessonSetForm) (s : State) : Result :=
  guarded s
    ([(form.label.isNone && form.lock.isNone, .argument), (form.bad, .range)]
      ++ s.lessonChecks lvl (form.need (s.lesson (lessonIdx lesson)).lock) lesson)
    (done (s.modLesson (lessonIdx lesson) fun x =>
      { x with
        label := editOr form.label x.label
        lock := (match form.lock with | some n => .ofNum n | none => x.lock)
        dirty := true }))

/-- LESSON.SET (R36). -/
def execLessonSet (lvl : Level) (lesson : Nat) (form : LessonSetForm) (s : State) :
    Host.Outcome State Fault Refusal :=
  conclude (lessonSetBlock lvl lesson form s)

/-! ### LESSON.PLACE (R38) -/

/-- The checks LESSON.PLACE makes of the record's source lesson, another one than the destination (R38
check 9). -/
def State.sourceChecks (s : State) (lvl : Level) (i : Fin 64) : List Check :=
  match (s.page i).lesson with
  | some l => [((s.lesson l).st == .committing, .busy), (!lvl.passes (s.lesson l).lock, .locked)]
  | none => []

/-- LESSON.PLACE at its block (R38). Of the records whose positions change, the lock of the named one alone is
checked (DEDUCED, unsafe, log 39). -/
def lessonPlaceBlock (lvl : Level) (page : PageRef) (place : Placement) (s : State) : Result :=
  let i := page.record
  let d := lessonIdx place.lesson
  guarded s
    ([(badLesson place.lesson || decide (32 < place.pos), .range), (page.badIndex, .range),
        (i == 0, .target), (!s.isCurrent page, .stale), (!lvl.passes (s.page i).setup.lock, .locked)]
      ++ [((s.lesson d).st == .committing, .busy), ((s.lesson d).st != .opened, .state),
        (!lvl.passes (s.lesson d).lock, .locked), ((s.page i).lesson == some d, .state)]
      ++ s.sourceChecks lvl i
      ++ [(decide (32 ≤ (s.lesson d).order.length), .full),
        (decide ((s.lesson d).order.length < place.pos), .range)])
    (doneWith ((s.leaveLesson i).insertEntry d i place.pos) (.position place.pos))

/-- LESSON.PLACE (R38). -/
def execLessonPlace (lvl : Level) (page : PageRef) (place : Placement) (s : State) :
    Host.Outcome State Fault Refusal :=
  conclude (lessonPlaceBlock lvl page place s)

/-! ### LESSON.MOVE (R39) -/

/-- A move of an entry from a to b in lesson l (R32, R33, R39). -/
def State.moveEntry (s : State) (l : Fin 8) (a b : Nat) : State :=
  (s.modLesson l fun x =>
      { x with order := (x.order.eraseIdx a).insertIdx b (x.order.getD a 0),
               cursor := cursorMove x.cursor a b, dirty := true }).modPage (s.entryAt l a)
    fun r => { r with dirty := true }

/-- LESSON.MOVE at its block (R39). Of the records whose positions change, the lock of the one at a alone is
checked (DEDUCED, unsafe, log 39). -/
def lessonMoveBlock (lvl : Level) (lesson a b : Nat) (s : State) : Result :=
  let l := lessonIdx lesson
  let n := (s.lesson l).order.length
  guarded s
    ([(decide (31 < a) || decide (31 < b), .range)] ++ s.lessonChecks lvl (s.lesson l).lock lesson
      ++ [(decide (n ≤ a) || decide (n ≤ b), .range),
        (!lvl.passes (s.page (s.entryAt l a)).setup.lock, .locked)])
    (done (s.moveEntry l a b))

/-- LESSON.MOVE (R39). -/
def execLessonMove (lvl : Level) (lesson a b : Nat) (s : State) : Host.Outcome State Fault Refusal :=
  conclude (lessonMoveBlock lvl lesson a b s)

/-! ### LESSON.REMOVE (R40) -/

/-- LESSON.REMOVE at its block (R40). Of the records whose positions change, the lock of the one at p alone is
checked (DEDUCED, unsafe, log 39). -/
def lessonRemoveBlock (lvl : Level) (lesson p : Nat) (s : State) : Result :=
  let l := lessonIdx lesson
  guarded s
    ([(decide (31 < p), .range)] ++ s.lessonChecks lvl (s.lesson l).lock lesson
      ++ [(decide ((s.lesson l).order.length ≤ p), .range),
        (!lvl.passes (s.page (s.entryAt l p)).setup.lock, .locked)])
    (doneWith (s.removeEntry l (s.entryAt l p) p) (.handle (s.handleOf (s.entryAt l p))))

/-- LESSON.REMOVE (R40). -/
def execLessonRemove (lvl : Level) (lesson p : Nat) (s : State) : Host.Outcome State Fault Refusal :=
  conclude (lessonRemoveBlock lvl lesson p s)

/-! ### Steps (R41 to R44) -/

/-- The cursor after a step in an order of length n (R41). -/
def stepCursor (k : StepKind) (q : Nat) (c : Option Nat) (n : Nat) : Nat :=
  match k, c with
  | .next, none => 0
  | .next, some c => if c = n - 1 then c else c + 1
  | .prev, none => n - 1
  | .prev, some c => if c = 0 then 0 else c - 1
  | .first, _ => 0
  | .last, _ => n - 1
  | .position, _ => q

/-- The active lesson, where a step on it acts (R41). -/
def State.stepLesson (s : State) : Option (Fin 8) :=
  match s.active with
  | some l => if (s.lesson l).present && !(s.lesson l).order.isEmpty then some l else none
  | none => none

/-- A cursor write and the staging of the record there (R41, R44). -/
def State.goTo (s : State) (l : Fin 8) (p : Nat) : State :=
  (s.modLesson l fun x => { x with cursor := some p }).stageFollowing (.page (s.handleOf (s.entryAt l p)))

/-- A step on a lesson whose order is not empty (R41, R44). -/
def State.stepAt (s : State) (l : Fin 8) (k : StepKind) (q : Nat) : State :=
  s.goTo l (stepCursor k q (s.lesson l).cursor (s.lesson l).order.length)

/-- A presenter's edge: a step where one acts, ignored otherwise (R42). -/
def State.edgeStep (s : State) (k : StepKind) : State :=
  match s.stepLesson with
  | some l => s.stepAt l k 0
  | none => s

/-- NEXT_EDGE (R42). -/
def execNextEdge (s : State) : Host.Outcome State Fault Refusal := .next (s.edgeStep .next)

/-- PREV_EDGE (R42). -/
def execPrevEdge (s : State) : Host.Outcome State Fault Refusal := .next (s.edgeStep .prev)

/-- LESSON.STEP at its block (R43). -/
def lessonStepBlock (form : StepForm) (s : State) : Result :=
  let k := form.kind.getD .next
  match firstFailure [(form.kind.bad || outside 0 31 form.pos, .range), (form.malformed, .argument)] with
  | some c => refuse s c
  | none =>
    match s.stepLesson with
    | none => refuse s .state
    | some l =>
      let p := stepCursor k (form.pos.getD 0) (s.lesson l).cursor (s.lesson l).order.length
      if (s.lesson l).order.length ≤ p then refuse s .range
      else doneWith (s.stepAt l k (form.pos.getD 0)) (.stepped p (s.handleOf (s.entryAt l p)))

/-- LESSON.STEP (R43). -/
def execLessonStep (form : StepForm) (s : State) : Host.Outcome State Fault Refusal :=
  conclude (lessonStepBlock form s)

/-! ### LESSON.READ (R45) -/

/-- What LESSON.READ returns of lesson l (R45). -/
def State.lessonReply (s : State) (l : Fin 8) : LessonReply where
  st := (s.lesson l).st
  label := (s.lesson l).label
  lock := (s.lesson l).lock
  stored := (s.lesson l).stored
  lost := (s.lesson l).lost
  dirty := (s.lesson l).dirty
  active := s.active == some l
  order := (s.lesson l).order.map s.handleOf
  cursor := (s.lesson l).cursor
  progress := (s.lesson l).progress

/-- LESSON.READ at its block (R45). -/
def lessonReadBlock (lesson : Nat) (s : State) : Result :=
  guarded s [(badLesson lesson, .range)] (doneWith s (.lesson (s.lessonReply (lessonIdx lesson))))

/-- LESSON.READ (R45). -/
def execLessonRead (lesson : Nat) (s : State) : Host.Outcome State Fault Refusal :=
  conclude (lessonReadBlock lesson s)

/-! ### LESSON.EVICT (R46, R47) -/

/-- The records of a lesson's order in ascending index order (R47). -/
def State.orderAscending (s : State) (l : Fin 8) : List (Fin 64) :=
  (List.finRange 64).filter fun i => (s.lesson l).order.contains i

/-- Every record of the order is retired and the lesson becomes ABSENT (R47). -/
def State.evict (s : State) (l : Fin 8) : State :=
  ((s.orderAscending l).foldl State.retire s).makeAbsent l

/-- The counts of records made FREE and made RETIRING (R47). -/
def State.evictCounts (s : State) (l : Fin 8) : ReplyBody :=
  let free := (s.orderAscending l).filter fun i => (s.page i).holds == 0
  .evicted free.length ((s.orderAscending l).length - free.length)

/-- LESSON.EVICT at its block (R46, R47). A refusal at checks 4 and 6 names the lowest-indexed record. -/
def lessonEvictBlock (lvl : Level) (lesson : Nat) (form : EvictForm) (s : State) : Result :=
  let l := lessonIdx lesson
  match firstFailure ([(badLesson lesson, .range), (form == .other, .argument)]
      ++ s.lessonChecks lvl (s.lesson l).lock lesson) with
  | some c => refuse s c
  | none =>
    match (s.orderAscending l).find? fun i => !lvl.passes (s.page i).setup.lock with
    | some i => (s, ⟨.locked, .names i⟩)
    | none =>
      if (s.lesson l).dirty && form != .discard then refuse s .dirty
      else
        match (s.orderAscending l).find? fun i => (s.page i).referenced with
        | some i => (s, ⟨.referenced, .names i⟩)
        | none => doneWith (s.evict l) (s.evictCounts l)

/-- LESSON.EVICT (R46). -/
def execLessonEvict (lvl : Level) (lesson : Nat) (form : EvictForm) (s : State) :
    Host.Outcome State Fault Refusal :=
  conclude (lessonEvictBlock lvl lesson form s)

end Sys2Proof.Machine
end

