-- ==== Sys2Proof/Machine/Matcher.lean ====
section
/-! DEFINITION. The Page Matcher (R90 to R101). -/

namespace Sys2Proof.Machine

/-! ### Comparing and scanning (R91, R92) -/

/-- Whether a nibble that takes part is a mismatch: a difference of 2 or more (R91). -/
def nibbleMismatch (a b : Nibble) : Bool := decide (a.toNat + 2 ≤ b.toNat) || decide (b.toNat + 2 ≤ a.toNat)

/-- The mismatches of a signature against a probe under a mask (R91). -/
def mismatches (sig : Signature) (mask : BitVec 16) (probe : Signature) : Nat :=
  ((List.finRange 16).filter fun (n : Fin 16) => mask.getLsbD n && nibbleMismatch sig[n] probe[n]).length

/-- The mismatch count of an eligible record: match enable on and signature present (R91). -/
def Setup.compare (x : Setup) (probe : Signature) : Option Nat :=
  match x.signature with
  | some sig => if x.matchEnable then some (mismatches sig x.sigMask probe) else none
  | none => none

/-- Whether record i is eligible and agrees with the probe (R91). -/
def State.agrees (s : State) (probe : Signature) (i : Fin 64) : Bool :=
  match (s.page i).setup.compare probe with
  | some n => decide (n ≤ s.tolerance)
  | none => false

/-- A scan of lesson l's order: the position of the match, if any (R92). -/
def State.scan (s : State) (l : Fin 8) (probe : Signature) : Option Nat :=
  (s.lesson l).order.findIdx? (s.agrees probe)

/-! ### At a settle event (R93 to R95) -/

/-- A recall of the match at position p (R94). -/
def State.recall (s : State) (l : Fin 8) (p : Nat) : State := (s.goTo l p).setFlag .recalled

/-- An unmatch (R95). -/
def State.unmatch (s : State) : State := (s.stageFollowing .live).setFlag .unmatched

/-- The matcher's act at a settle event (R93). -/
def State.matchSettled (s : State) (probe : Signature) : State :=
  match s.active with
  | some l =>
    if s.matchOn && (s.lesson l).present then
      match s.scan l probe with
      | some p => s.recall l p
      | none => s.unmatch
    else s
  | none => s

/-! ### MATCH.SETUP (R100) -/

/-- MATCH.SETUP at its block (R100). -/
def matchSetupBlock (lvl : Level) (form : MatchForm) (s : State) : Result :=
  guarded s
    [(form.enable.isNone && form.tolerance.isNone, .argument),
      (badItem form.enable || outside 0 3 form.tolerance, .range), ownerCheck lvl]
    (done { s with matchOn := itemOr form.enable s.matchOn, tolerance := form.tolerance.getD s.tolerance })

/-- MATCH.SETUP (R100). -/
def execMatchSetup (lvl : Level) (form : MatchForm) (s : State) : Host.Outcome State Fault Refusal :=
  conclude (matchSetupBlock lvl form s)

/-! ### MATCH.TRY (R101) -/

/-- The match a scan's position names (R101). -/
def State.hitAt (s : State) (l : Fin 8) (probe : Signature) (p : Nat) : MatchHit where
  position := p
  handle := s.handleOf (s.entryAt l p)
  mismatches := ((s.page (s.entryAt l p)).setup.compare probe).getD 0

/-- What MATCH.TRY returns (R101). -/
def State.tryReply (s : State) (l : Fin 8) (probe : Signature) : TryReply where
  probe := probe
  tolerance := s.tolerance
  enable := s.matchOn
  hit := (s.scan l probe).map (s.hitAt l probe)
  agreements := ((s.lesson l).order.filter (s.agrees probe)).length

/-- The lesson MATCH.TRY scans, or the code it is refused with (R101 checks 2 and 3). -/
def State.tryLesson (s : State) : Option Nat → Fin 8 ⊕ ResultCode
  | none =>
    match s.active with
    | some l => .inl l
    | none => .inr .state
  | some n =>
    if badLesson n then .inr .range
    else if (s.lesson (lessonIdx n)).present then .inl (lessonIdx n)
    else .inr .state

/-- The probe of MATCH.TRY: the given nibbles, or the live signature (R101). -/
def State.probeOf (s : State) : Option (List Nat) → Option Signature
  | some l => some (signatureOf l)
  | none => s.pfd.liveSig

/-- Whether a given probe has not 16 nibbles (R101). -/
def probeMalformed : Option (List Nat) → Bool
  | some l => l.length != 16
  | none => false

/-- Whether a given probe has a nibble above 15 (R101). -/
def probeBad : Option (List Nat) → Bool
  | some l => l.any fun n => decide (15 < n)
  | none => false

/-- MATCH.TRY at its block (R101). -/
def matchTryBlock (lesson : Option Nat) (probe : Option (List Nat)) (s : State) : Result :=
  match firstFailure [(probeMalformed probe, .argument), (probeBad probe, .range)] with
  | some c => refuse s c
  | none =>
    match s.tryLesson lesson with
    | .inr c => refuse s c
    | .inl l =>
      match s.probeOf probe with
      | none => refuse s .state
      | some sig => doneWith s (.tried (s.tryReply l sig))

/-- MATCH.TRY (R101). -/
def execMatchTry (lesson : Option Nat) (probe : Option (List Nat)) (s : State) :
    Host.Outcome State Fault Refusal :=
  conclude (matchTryBlock lesson probe s)

end Sys2Proof.Machine
end

