-- ==== Sys2Proof/Machine/Finder.lean ====
section
/-! DEFINITION. Sensor Intake and the Page Finder (R65 to R89). -/

namespace Sys2Proof

open Machine

/-- Whether a FIND.SETUP payload names no item (R87). -/
def FindForm.isEmpty (f : FindForm) : Bool :=
  f.settle.isNone && f.missing.isNone && f.motion.isNone && f.focusLow.isNone && f.dark.isNone
    && f.bright.isNone && f.glare.isNone && f.tracking.isNone && f.report.isNone

/-- Whether an item of a FIND.SETUP payload is out of its range (R87). -/
def FindForm.bad (f : FindForm) : Bool :=
  outside 1 30 f.settle || outside 1 30 f.missing || outside 0 255 f.motion || outside 0 255 f.focusLow
    || outside 0 15 f.dark || outside 0 15 f.bright || outside 0 100 f.glare || badItem f.tracking
    || badItem f.report

/-- The settings as they will stand after the write (R87). -/
def FindForm.apply (f : FindForm) (x : FinderSettings) : FinderSettings where
  settle := f.settle.getD x.settle
  missing := f.missing.getD x.missing
  motion := f.motion.getD x.motion
  focusLow := f.focusLow.getD x.focusLow
  dark := f.dark.getD x.dark
  bright := f.bright.getD x.bright
  glare := f.glare.getD x.glare
  tracking := itemOr f.tracking x.tracking
  report := itemOr f.report x.report

end Sys2Proof

namespace Sys2Proof.Machine

/-! ### The live signature (R75) -/

/-- The cell of the straightened page that lies in row r and column c after a rotation, clockwise (DEDUCED,
unsafe, log 17), and a mirror (R75, R140). -/
def turnedCell (rot : Rotation) (mirror : Bool) (r c : Nat) : Nat :=
  let c := if mirror then 3 - c else c
  match rot with
  | .r0 => 4 * r + c
  | .r90 => 4 * (3 - c) + r
  | .r180 => 4 * (3 - r) + (3 - c)
  | .r270 => 4 * c + (3 - r)

/-- The nibble of an ink density: the whole part of 16 times it, 15 where that is 16 (R75). -/
def inkNibble (k : Ink) : Nibble := BitVec.ofNat 4 (min 15 (16 * k.dark / k.total))

/-- The live signature of a settling frame, in the orientation the page is shown in (R75). -/
def liveSignature (ink : Vector Ink 16) (rot : Rotation) (mirror : Bool) : Signature :=
  Vector.ofFn fun n => inkNibble (ink.toList.getD (turnedCell rot mirror (n.val / 4) (n.val % 4)) ⟨0, 1⟩)

/-! ### Frame results (R71, R79) -/

/-- The measures of a frame; the motion of the first frame analysed after NO_SIGNAL is 255 (R71). -/
def Finder.measure (p : Finder) (f : IntakeFrame) : Measures where
  outline := f.outline.isSome
  motion := if p.hasPrevious then f.motion else 255
  focus := f.focus
  light := f.light
  glare := f.glare

/-- The focus level below which a frame is FOCUS_LOW: 8 higher while held, and at most 255 (R79). -/
def Finder.focusLimit (p : Finder) : Nat :=
  if p.focusLowHeld then (if 247 < p.settings.focusLow then 255 else p.settings.focusLow + 8)
  else p.settings.focusLow

/-- The frame flags (R79). -/
def Finder.frameFlags (p : Finder) (m : Measures) : Quality where
  focusLow := decide (m.focus.val < p.focusLimit)
  dark := decide (m.light.val ≤ p.settings.dark)
  bright := decide (p.settings.bright ≤ m.light.val)
  glare := decide (p.settings.glare < m.glare.val)

/-- The finder with a frame's result as its latest (R71, R79). -/
def Finder.observe (p : Finder) (f : IntakeFrame) : Finder :=
  { p with
    latest := some (p.measure f)
    flags := p.frameFlags (p.measure f)
    focusLowHeld := (p.frameFlags (p.measure f)).focusLow
    hasPrevious := true
    liveCorners := f.outline.or p.liveCorners }

/-! ### The finder state (R72) -/

/-- What a frame's move gives besides the state (R72). -/
inductive FinderEvent
  | none | settle | removal
  deriving DecidableEq, Repr

/-- An ARRIVING or MOVING frame with an outline (R72). -/
def Finder.judge (p : Finder) (motion : Nat) : Finder × FinderEvent :=
  if motion < p.settings.motion then
    if p.settings.settle ≤ p.stable + 1 then
      ({ p with missing := 0, stable := p.stable + 1, st := .settled }, .settle)
    else ({ p with missing := 0, stable := p.stable + 1 }, .none)
  else ({ p with missing := 0, stable := 0 }, .none)

/-- A frame without an outline while a page is present (R72). -/
def Finder.gone (p : Finder) : Finder × FinderEvent :=
  if p.settings.missing ≤ p.missing + 1 then
    ({ p with stable := 0, missing := 0, st := .empty, liveCorners := none },
      if p.st = .arriving then .none else .removal)
  else ({ p with stable := 0, missing := p.missing + 1 }, .none)

/-- The move of an analysed frame (R72). No frame is analysed in NO_SIGNAL (R73). -/
def Finder.move (p : Finder) (m : Measures) : Finder × FinderEvent :=
  match p.st, m.outline with
  | .noSignal, _ => (p, .none)
  | .empty, false => (p, .none)
  | .empty, true => { p with st := .arriving, stable := 0, missing := 0 }.judge m.motion.val
  | .settled, true =>
    if m.motion.val < p.settings.motion then ({ p with missing := 0 }, .none)
    else ({ p with missing := 0, stable := 0, st := .moving }, .none)
  | .arriving, true => p.judge m.motion.val
  | .moving, true => p.judge m.motion.val
  | _, false => p.gone

/-! ### Record 0, settle and removal events (R74, R77, R78) -/

/-- Writes record 0's corners (R78). -/
def State.track (s : State) (c : Option Corners) : State :=
  s.modPage 0 fun r => { r with setup := { r.setup with corners := c } }

/-- Offers the FOCUS_START of a run that is STARTING, where the AUTO slot is free (R84). -/
def State.offerFocusStart (s : State) : State :=
  if s.pfd.run = .starting ∧ s.lens.autoFree then s.modLens fun x => x.queueAuto .focusStart else s

/-- The focus check of a settle event (R84). -/
def State.focusCheck (s : State) : State :=
  if s.lens.autoFocus ∧ s.pfd.flags.focusLow ∧ s.pfd.run = .idle then
    (s.modFinder fun p => { p with run := .starting, busyPolls := 0 }).offerFocusStart
  else s

/-- The signature of the settling frame, by record 0's rotation and mirror (R75). -/
def State.settledSignature (s : State) (f : IntakeFrame) : Signature :=
  liveSignature f.ink (s.page 0).setup.rotation (s.page 0).setup.mirror

/-- A settle event (R74). -/
def State.settle (s : State) (f : IntakeFrame) : State :=
  let sig := s.settledSignature f
  let t := s.modFinder fun p => { p with liveSig := some sig }
  let t := t.modPage 0 fun r => { r with setup := { r.setup with signature := some sig } }
  let t := if t.pfd.settings.tracking = .off then t else t.track t.pfd.liveCorners
  ((t.setFlag .settled).matchSettled sig).focusCheck

/-- A removal event (R77). -/
def State.removal (s : State) : State :=
  (s.modFinder fun p => { p with liveSig := none, liveCorners := none }).stageFollowing .live

/-! ### Report and lamp counters (R80, R82) -/

/-- The update of the quality report at an analysed frame (R80). -/
def State.updateReport (s : State) : State :=
  let t := s.modFinder fun p =>
    { p with report := match p.settings.report with
                       | .perFrame => p.flags
                       | .accumulate => p.report.union p.flags }
  if t.pfd.report.any then t.setFlag .quality else t

/-- A lamp counter after a frame (R82). -/
def lampCount (on flag : Bool) (n : Nat) : Nat := if on && flag then min 4 (n + 1) else 0

/-- The lamp counters after an analysed frame (R82). -/
def State.countLight (s : State) : State :=
  s.modFinder fun p =>
    { p with darkCount := lampCount s.lens.autoLamp p.flags.dark p.darkCount,
             brightCount := lampCount s.lens.autoLamp p.flags.bright p.brightCount }

/-- The analysis of a complete frame (R71). -/
def State.analyse (s : State) (f : IntakeFrame) : State :=
  let m := s.pfd.measure f
  let p := s.pfd.observe f
  let t := { s with pfd := (p.move m).1 }
  let t := if p.settings.tracking = .continuous ∧ f.outline.isSome then t.track f.outline else t
  let t := match (p.move m).2 with
    | .settle => t.settle f
    | .removal => t.removal
    | .none => t
  t.updateReport.countLight

/-! ### Lamp requests (R81, R82) -/

/-- Queues a lamp write and empties the lamp counters (R81, R82). -/
def State.queueLamp (s : State) (level : Fin 16) (sync : Bool) : State :=
  (s.modLens fun x => x.queueAuto (.lampSet level sync)).modFinder fun p =>
    { p with darkCount := 0, brightCount := 0, syncPending := p.syncPending && !sync }

/-- The sync write offered at the end of a complete frame (R81). -/
def State.offerSync (s : State) : State :=
  if s.pfd.syncPending ∧ s.lens.autoLamp ∧ s.lens.autoFree then s.queueLamp s.pfd.lamp true else s

/-- The lamp step offered at the end of an analysed frame (R82). -/
def State.offerStep (s : State) : State :=
  if s.lens.autoLamp ∧ s.lens.autoFree ∧ s.pfd.syncPending = false then
    if s.pfd.darkCount = 4 ∧ s.pfd.lamp.val < 15 then s.queueLamp (Fin.ofNat 16 (s.pfd.lamp.val + 1)) false
    else if s.pfd.brightCount = 4 ∧ 0 < s.pfd.lamp.val then
      s.queueLamp (Fin.ofNat 16 (s.pfd.lamp.val - 1)) false
    else s
  else s

/-! ### Intake frames (R66 to R69) -/

/-- Rewrites Sensor Intake. -/
def State.modIntake (s : State) (f : Intake → Intake) : State := { s with sin := f s.sin }

/-- The frame in progress turns out incomplete (R66). -/
def State.frameIncomplete (s : State) : State :=
  (s.modIntake fun x => { x with good := 0, inProgress := false }).requeueFills

/-- The poll offered at an intake frame start (R85). -/
def State.offerPoll (s : State) : State :=
  if s.pfd.run = .polling ∧ s.lens.autoFree then s.modLens fun x => x.queueAuto .focusPoll else s

/-- An intake frame start: an overtaken frame is incomplete; the timer restarts; PAGE fills are captured; the
focus run offers its request (R66, R58, R84, R85). -/
def State.frameStart (s : State) : State :=
  let t := if s.sin.inProgress then s.frameIncomplete else s
  let t := t.modIntake fun x => { x with inProgress := true, timer := 0 }
  if t.pfd.run = .starting then (t.captureFills .page).offerFocusStart else (t.captureFills .page).offerPoll

/-- INTAKE_FRAME_START (R66). -/
def execIntakeFrameStart (s : State) : Host.Outcome State Fault Refusal := .next s.frameStart

/-- Sensor Intake becomes RUNNING and the Page Finder EMPTY (R67, R68, R73). -/
def State.enterRunning (s : State) : State :=
  (s.modIntake fun x => { x with st := .running }).modFinder fun p =>
    { p with st := .empty, stable := 0, missing := 0, liveCorners := none, hasPrevious := false }

/-- The movement of Sensor Intake at the end of a complete frame, whose count has risen (R66 to R69). -/
def State.intakeMove (s : State) (f : IntakeFrame) : State :=
  let t := match s.sin.st with
    | .waiting => s.enterRunning
    | .lost => if 2 ≤ s.sin.good then s.enterRunning else s
    | .running => s
  if t.sin.st = .running then t.modIntake fun x => { x with lastGood := some f.pixels } else t

/-- The end of a complete frame, and the Page Finder's acts at it in the order of R81 (R66). -/
def State.frameComplete (s : State) (f : IntakeFrame) : State :=
  let t := s.modIntake fun x => { x with good := min 65535 (x.good + 1), inProgress := false }
  let t := (t.intakeMove f).completePageFills f.pixels f.light
  if s.sin.st = .running then (t.analyse f).offerFocusStart.offerSync.offerStep
  else t.offerFocusStart.offerSync

/-- An intake frame end (R66). One without a frame in progress is disregarded. -/
def State.frameEnd (s : State) (f : IntakeFrame) : State :=
  if s.sin.inProgress then (if f.full then s.frameComplete f else s.frameIncomplete) else s

/-- INTAKE_FRAME_END (R66). -/
def execIntakeFrameEnd (frame : IntakeFrame) (s : State) : Host.Outcome State Fault Refusal :=
  .next (s.frameEnd frame)

/-! ### Loss of the sensor (R68, R73, R86) -/

/-- Entry into NO_SIGNAL (R73). -/
def Finder.enterNoSignal (p : Finder) : Finder :=
  { p with
    st := .noSignal
    stable := 0
    missing := 0
    darkCount := 0
    brightCount := 0
    focusLowHeld := false
    report := match p.settings.report with
              | .perFrame => .empty
              | .accumulate => p.report }

/-- The AUTO request of a cancelled focus run: withdrawn while waiting, disregarded on the bus (R86, log
22). -/
def Lens.cancelFocus (x : Lens) : Lens :=
  match x.auto with
  | some ⟨.lampSet .., _, _⟩ => x
  | some r => if x.bus = .autoOnBus then { x with auto := some { r with orphan := true } }
              else { x with auto := none }
  | none => x

/-- A focus run in progress is cancelled (R86). -/
def State.cancelRun (s : State) : State :=
  if s.pfd.run = .idle then s else (s.modLens Lens.cancelFocus).endRun .cancelled

/-- Sensor Intake becomes LOST (R68). -/
def State.loseSensor (s : State) : State :=
  let t := s.modIntake fun x => { x with st := .lost, good := 0, inProgress := false, timer := 0 }
  let t := t.modFinder Finder.enterNoSignal
  ((t.abortFills .page).cancelRun).setFlag .sensorLost

/-- An expiry while LOST (R68). -/
def State.stillLost (s : State) : State :=
  (s.modIntake fun x => { x with good := 0, inProgress := false, timer := 0 }).setFlag .sensorLost

/-- INTAKE_TIMEOUT (R68). -/
def execIntakeTimeout (s : State) : Host.Outcome State Fault Refusal :=
  .next (if s.sin.st = .lost then s.stillLost else s.loseSensor)

/-! ### FIND commands (R87 to R89) -/

/-- FIND.SETUP at its block (R87). -/
def findSetupBlock (lvl : Level) (form : FindForm) (s : State) : Result :=
  let x := form.apply s.pfd.settings
  guarded s
    [(form.isEmpty, .argument), (form.bad, .range), (decide (x.bright ≤ x.dark), .range), ownerCheck lvl]
    (done (s.modFinder fun p => { p with settings := x }))

/-- FIND.SETUP (R87). -/
def execFindSetup (lvl : Level) (form : FindForm) (s : State) : Host.Outcome State Fault Refusal :=
  conclude (findSetupBlock lvl form s)

/-- What FIND.READ returns (R88). -/
def State.finderReply (s : State) : FinderReply where
  intake := s.sin.st
  good := s.sin.good
  hasLastGood := s.sin.lastGood.isSome
  st := s.pfd.st
  stable := s.pfd.stable
  missing := s.pfd.missing
  liveCorners := s.pfd.liveCorners
  liveSig := s.pfd.liveSig
  latest := s.pfd.latest
  flags := s.pfd.flags
  report := s.pfd.report
  settings := s.pfd.settings
  lamp := s.pfd.lamp
  syncPending := s.pfd.syncPending
  lampOutstanding := s.lens.lampOutstanding
  darkCount := s.pfd.darkCount
  brightCount := s.pfd.brightCount
  run := s.pfd.run
  busyPolls := s.pfd.busyPolls
  outcome := s.pfd.outcome

/-- FIND.READ at its block (R88). -/
def findReadBlock (s : State) : Result := doneWith s (.finder s.finderReply)

/-- FIND.READ (R88). -/
def execFindRead (s : State) : Host.Outcome State Fault Refusal := conclude (findReadBlock s)

/-- FIND.CLEAR at its block (R89). -/
def findClearBlock (s : State) : Result := done (s.modFinder fun p => { p with report := .empty })

/-- FIND.CLEAR (R89). -/
def execFindClear (s : State) : Host.Outcome State Fault Refusal := conclude (findClearBlock s)

end Sys2Proof.Machine
end

