-- ==== Sys2Proof/Machine/FlashFormat.lean ====
section
/-! DEFINITION. The lesson flash: its bytes, its check, and the header and page image as R155 lays them
out. -/

namespace Sys2Proof.Machine

/-! ### Bytes of an area -/

/-- The byte at an offset, absent where nothing has been written since the erase. -/
def readCell : List Host.Cell → Nat → Option Byte
  | [], _ => none
  | (a, b) :: rest, x => if x = a then some b else readCell rest x

/-- Writes a byte, keeping the offsets strictly rising. -/
def writeCell : List Host.Cell → Nat → Byte → List Host.Cell
  | [], x, v => [(x, v)]
  | (a, b) :: rest, x, v =>
    if x < a then (x, v) :: (a, b) :: rest
    else if x = a then (x, v) :: rest
    else (a, b) :: writeCell rest x v

/-- Whether the offsets of a list of cells strictly rise above a bound: the canonical form. -/
def risesAbove : Nat → List Host.Cell → Bool
  | _, [] => true
  | n, (a, _) :: rest => decide (n ≤ a) && risesAbove (a + 1) rest

/-- The canonical form of an area's bytes: offsets strictly rising. Every listed byte differs from an
unlisted one, which reads as absent. -/
def Memory.wf (m : List Host.Cell) : Bool := risesAbove 0 m

/-- Writes bytes from an offset on. -/
def writeBytes (m : List Host.Cell) (x : Nat) : List Byte → List Host.Cell
  | [] => m
  | b :: rest => writeBytes (writeCell m x b) (x + 1) rest

/-- Reads n bytes from an offset on, absent where any of them is. -/
def readBytes (m : List Host.Cell) (x : Nat) : Nat → Option (List Byte)
  | 0 => some []
  | n + 1 =>
    match readCell m x, readBytes m (x + 1) n with
    | some b, some l => some (b :: l)
    | _, _ => none

/-! ### The parts of an area (R154, R155) -/

/-- Where the picture region of an area starts: its bytes lie below this offset, its block frames from here on (R155). -/
def pictureOffset : Nat := 8192

/-- The offset of page image k (R155). -/
def pageOffset (k : Nat) : Nat := 128 + 130 * k

/-- What stands at an offset of an area (R155). -/
def Area.contentAt (a : Area) (x : Nat) : AreaContent :=
  if x < pictureOffset then .byte (readCell a.cells x) else .picture a.frames

/-- Reads n bytes of an area from an offset on, absent where any of them is, or is of the picture region, whose block
encoding is not described (R154; log 8). -/
def Area.read (a : Area) (x : Nat) : Nat → Option (List Byte)
  | 0 => some []
  | n + 1 =>
    match a.contentAt x, a.read (x + 1) n with
    | .byte (some b), some l => some (b :: l)
    | _, _ => none

/-- Writes bytes into an area from an offset on, up to its picture region (R155; log 8). -/
def Area.put (a : Area) (x : Nat) (l : List Byte) : Area :=
  { a with cells := writeBytes a.cells x (l.take (pictureOffset - x)) }

/-! ### Numbers, checks and labels (R154, R155) -/

/-- A byte of a number below 256. -/
def byteOf (n : Nat) : Byte := BitVec.ofNat 8 n

/-- A two-byte number, most significant byte first (R154). -/
def be16 (n : Nat) : List Byte := [byteOf (n / 256), byteOf n]

/-- The byte at a place of a list, 0 where there is none. -/
def byteAt (l : List Byte) (i : Nat) : Nat := (l.getD i 0).toNat

/-- The two-byte number at a place of a list. -/
def wordAt (l : List Byte) (i : Nat) : Nat := 256 * byteAt l i + byteAt l (i + 1)

/-- n bytes at a place of a list. -/
def slice (l : List Byte) (i n : Nat) : List Byte := (l.drop i).take n

/-- One bit of the check: polynomial x^16 + x^12 + x^5 + 1 (R154). -/
def crcShift (c : BitVec 16) : BitVec 16 := if c.msb then (c <<< 1) ^^^ 0x1021#16 else c <<< 1

/-- The check after one more byte, most significant bit first (R154). -/
def crcByte (c : BitVec 16) (b : Byte) : BitVec 16 :=
  Nat.repeat crcShift 8 (c ^^^ (b.setWidth 16 <<< 8))

/-- CRC-16 of bytes, initial value 0xFFFF, no final inversion (R154, R176). -/
def crc16 (l : List Byte) : BitVec 16 := l.foldl crcByte 0xFFFF#16

/-- The check's two bytes, most significant first (R154). -/
def crcBytes (l : List Byte) : List Byte := be16 (crc16 l).toNat

/-- Whether bytes end with their own check. -/
def crcHolds (l : List Byte) (n : Nat) : Bool := slice l n 2 == crcBytes (l.take n)

/-- The label length and the 24 label bytes, characters then zeros (R155). -/
def labelBytes : Option (List Byte) → List Byte
  | none => List.replicate 25 0
  | some l => byteOf l.length :: (l ++ List.replicate (24 - l.length) 0)

/-- Whether a byte is a printable character (R4). -/
def printable (c : Byte) : Bool := decide (0x20 ≤ c.toNat) && decide (c.toNat ≤ 0x7E)

/-- Whether 25 label bytes lie within the values of R155. -/
def labelOk (l : List Byte) : Bool :=
  decide (byteAt l 0 ≤ 24) && (slice l 1 (byteAt l 0)).all printable
    && (l.drop (1 + byteAt l 0)).all (· == 0)

/-- The label of 25 label bytes that are in range. -/
def labelOf (l : List Byte) : Option (List Byte) :=
  if byteAt l 0 = 0 then none else some (slice l 1 (byteAt l 0))

/-- The code of a page mode (R155). -/
def modeCode : PageMode → Nat
  | .plain => 0
  | .text => 1
  | .fineLine => 2
  | .photo => 3
  | .chart => 4
  | .invert => 5

/-- The page mode of a code 0..5 (R155). -/
def modeOf : Nat → PageMode
  | 0 => .plain
  | 1 => .text
  | 2 => .fineLine
  | 3 => .photo
  | 4 => .chart
  | _ => .invert

/-- The code of a band override (R155). -/
def overrideCode : Option PageMode → Nat
  | none => 15
  | some m => modeCode m

/-- The band override of a code 0..5 or 15 (R155). -/
def overrideOf (n : Nat) : Option PageMode := if n = 15 then none else some (modeOf n)

/-- The code of a rotation (R155). -/
def rotationCode : Rotation → Nat
  | .r0 => 0
  | .r90 => 1
  | .r180 => 2
  | .r270 => 3

/-- The rotation of a code 0..3 (R155). -/
def rotationOf : Nat → Rotation
  | 0 => .r0
  | 1 => .r90
  | 2 => .r180
  | _ => .r270

/-! ### The valid marker (R154) -/

/-- The valid pattern (R154). -/
def validPattern : List Byte := [0x5A, 0xC3, 0x3C, 0xA5]

/-- The marker after a clear (R154). -/
def clearedMarker : List Byte := List.replicate 4 0

/-- A clear of an area's marker (R154). -/
def Area.clear (a : Area) : Area := a.put 0 clearedMarker

/-- An area after its erase (R160). -/
def Area.erase (a : Area) : Area := { a with cells := [], frames := .replicate 64 none }

/-- A completed marker write (R160). -/
def Area.writeMarker (a : Area) : Area := a.put 0 validPattern

/-- Whether an area reads as marker valid: it answers the flash link and holds the pattern (R154, R156). -/
def Area.markerValid (a : Area) : Bool := a.answers && a.read 0 4 == some validPattern

/-! ### The header (R155) -/

/-- The kind of a still, in bit 4 of a directory entry's second byte. -/
def kindBit : StillKind → Nat
  | .page => 0
  | .composed => 16

/-- The two bytes of a directory entry (R155). -/
def dirBytes : Option DirEntry → List Byte
  | none => [0, 0]
  | some e => [byteOf e.blocks, byteOf (kindBit e.kind + e.light.val)]

/-- The blocks of a directory entry, 0 where it is 0. -/
def dirBlocks : Option DirEntry → Nat
  | none => 0
  | some e => e.blocks

/-- The directory entry two bytes spell (R155). DEDUCED, unsafe (log 16): a block count of 0 is no entry whatever the
second byte holds, and bits 7..5 of the second byte are not checked. -/
def dirOf (b0 b1 : Nat) : Option DirEntry :=
  if b0 = 0 then none
  else some ⟨b0, if (b1 / 16) % 2 = 1 then .composed else .page, Fin.ofNat 16 b1⟩

/-- Bytes 4..99 of a header, over which its check is taken (R155). -/
def headerCore (l : Fin 8) (h : HeaderVals) : List Byte :=
  [1, byteOf (l.val + 1), byteOf h.pages, byteOf h.stills, byteOf h.blocks, byteOf h.lock.rank]
    ++ labelBytes h.label ++ [0] ++ h.dir.flatMap dirBytes

/-- Bytes 4..127 of an area as a header write leaves them: the fields, the check, and zeros (R155). -/
def headerBytes (l : Fin 8) (h : HeaderVals) : List Byte :=
  headerCore l h ++ crcBytes (headerCore l h) ++ List.replicate 26 0

/-- The 32 directory entries of bytes 4..101. -/
def dirRead (b : List Byte) : List (Option DirEntry) :=
  (List.range 32).map fun k => dirOf (byteAt b (32 + 2 * k)) (byteAt b (33 + 2 * k))

/-- The header values of bytes 4..101, where they are in range (R155). -/
def headerVals (b : List Byte) : HeaderVals where
  pages := byteAt b 2
  stills := byteAt b 3
  blocks := byteAt b 4
  lock := .ofNum (byteAt b 5)
  label := labelOf (slice b 6 25)
  dir := dirRead b

/-- Whether bytes 4..101 of area l's header agree with their check and lie within the values of R155. -/
def headerSound (l : Fin 8) (b : List Byte) : Bool :=
  crcHolds b 96 && byteAt b 0 == 1 && byteAt b 1 == l.val + 1 && decide (byteAt b 2 ≤ 32)
    && decide (byteAt b 5 ≤ 2) && labelOk (slice b 6 25)
    && (List.range 32).all (fun k => decide (byteAt b (32 + 2 * k) ≤ 12)
          && (decide (k < byteAt b 2) || byteAt b (32 + 2 * k) == 0))
    && byteAt b 3 == ((dirRead b).filter Option.isSome).length
    && byteAt b 4 == ((dirRead b).map dirBlocks).sum && decide (byteAt b 4 ≤ 64)

/-- Writes a header, the marker left erased (R160). -/
def Area.writeHeader (a : Area) (l : Fin 8) (h : HeaderVals) : Area :=
  a.put 4 (headerBytes l h)

/-- Reads the header of area l, absent where it is not sound (R156, R164). -/
def Area.readHeader (a : Area) (l : Fin 8) : Option HeaderVals :=
  if a.answers then
    match a.read 4 98 with
    | some b => if headerSound l b then some (headerVals b) else none
    | none => none
  else none

/-- The descriptor an area reads as (R156). -/
def Area.describe (a : Area) (l : Fin 8) : AreaDesc :=
  if a.markerValid then
    match a.readHeader l with
    | some h => ⟨true, true, some h⟩
    | none => ⟨true, false, none⟩
  else .invalid

/-! ### The page image (R155) -/

/-- Presence flags (R155). -/
def presence (x : Setup) (still : Bool) : Nat :=
  (if x.corners.isSome then 1 else 0) + (if x.mirror then 2 else 0)
    + (if x.signature.isSome then 4 else 0) + (if x.matchEnable then 8 else 0)
    + (if x.preset.isSome then 16 else 0) + (if still then 32 else 0)

/-- Two nibbles in a byte, the first in the high half. -/
def nibblePair (a b : Nat) : Byte := byteOf (16 * (a % 16) + b % 16)

/-- Nibbles packed two to a byte. -/
def packNibbles : List Nat → List Byte
  | a :: b :: rest => nibblePair a b :: packNibbles rest
  | _ => []

/-- Nibble n of packed bytes. -/
def nibbleAt (l : List Byte) (n : Nat) : Nat :=
  if n % 2 = 0 then byteAt l (n / 2) / 16 else byteAt l (n / 2) % 16

/-- A sensor point (R155). -/
def pointBytes (p : Point) : List Byte := be16 p.x ++ be16 p.y

/-- The sixteen bytes of corners (R155). -/
def cornerBytes : Option Corners → List Byte
  | none => List.replicate 16 0
  | some c => pointBytes c.tl ++ pointBytes c.tr ++ pointBytes c.br ++ pointBytes c.bl

/-- The eight bytes of a signature (R155). -/
def signatureBytes : Option Signature → List Byte
  | none => List.replicate 8 0
  | some s => packNibbles (s.toList.map BitVec.toNat)

/-- The six bytes of a zoom preset (R155). -/
def presetBytes : Option Preset → List Byte
  | none => List.replicate 6 0
  | some p => be16 p.zoom ++ be16 p.x ++ be16 p.y

/-- Two 12-bit values in three bytes, most significant bit first (R155). -/
def pack24 (a b : Nat) : List Byte := [byteOf (a / 16), byteOf (16 * (a % 16) + b / 256), byteOf b]

/-- The first of two 12-bit values at a place (R155). -/
def firstOf24 (l : List Byte) (i : Nat) : Nat := 16 * byteAt l i + byteAt l (i + 1) / 16

/-- The second of two 12-bit values at a place (R155). -/
def secondOf24 (l : List Byte) (i : Nat) : Nat := 256 * (byteAt l (i + 1) % 16) + byteAt l (i + 2)

/-- The code of a mark's kind (R155). -/
def markCode : MarkKind → Nat
  | .spotlight => 1
  | .cover => 2
  | .outline => 3

/-- The kind of a code 1..3 (R155). -/
def markKindOf : Nat → MarkKind
  | 1 => .spotlight
  | 2 => .cover
  | _ => .outline

/-- The seven bytes of a mark position (R155). -/
def markBytes : Option Mark → List Byte
  | none => List.replicate 7 0
  | some m => byteOf (markCode m.kind) :: (pack24 m.x0 m.y0 ++ pack24 m.x1 m.y1)

/-- The mark position seven bytes at a place spell (R155). -/
def markAt (l : List Byte) (i : Nat) : Option Mark :=
  if byteAt l i = 0 then none
  else some ⟨markKindOf (byteAt l i), firstOf24 l (i + 1), secondOf24 l (i + 1), firstOf24 l (i + 4),
    secondOf24 l (i + 4)⟩

/-- Whether the mark position at a place lies within the values of R155. -/
def markOk (l : List Byte) (i : Nat) : Bool :=
  byteAt l i == 0
    || (decide (byteAt l i ≤ 3) && decide (firstOf24 l (i + 1) < firstOf24 l (i + 4))
        && decide (secondOf24 l (i + 1) < secondOf24 l (i + 4)))

/-- Bytes 0..127 of a page image, over which its check is taken (R155). -/
def pageCore (x : Setup) (still : Bool) (first : Nat) : List Byte :=
  [byteOf (presence x still), byteOf x.lock.rank, x.groups, byteOf (rotationCode x.rotation),
      byteOf (modeCode x.pageMode)]
    ++ packNibbles (x.overrides.toList.map overrideCode) ++ labelBytes x.label ++ cornerBytes x.corners
    ++ signatureBytes x.signature ++ be16 x.sigMask.toNat ++ presetBytes x.preset
    ++ x.marks.toList.flatMap markBytes ++ [byteOf first] ++ List.replicate 3 0

/-- A page image (R155). -/
def pageBytes (x : Setup) (still : Bool) (first : Nat) : List Byte :=
  pageCore x still first ++ crcBytes (pageCore x still first)

/-- Whether presence flag n of a page image is set. -/
def flagged (b : List Byte) (n : Nat) : Bool := (byteAt b 0).testBit n

/-- Corner point n of a page image. -/
def pointAt (b : List Byte) (n : Nat) : Point := ⟨wordAt b (36 + 4 * n), wordAt b (38 + 4 * n)⟩

/-- Whether n bytes at a place are zeros. -/
def zerosAt (b : List Byte) (i n : Nat) : Bool := (slice b i n).all (· == 0)

/-- The saved fields a page image holds, where they are in range (R155). -/
def pageSetup (b : List Byte) : Setup where
  label := labelOf (slice b 11 25)
  lock := .ofNum (byteAt b 1)
  groups := b.getD 2 0
  corners := if flagged b 0 then some ⟨pointAt b 0, pointAt b 1, pointAt b 2, pointAt b 3⟩ else none
  rotation := rotationOf (byteAt b 3)
  mirror := flagged b 1
  pageMode := modeOf (byteAt b 4)
  overrides := Vector.ofFn fun i => overrideOf (nibbleAt (slice b 5 6) i.val)
  marks := Vector.ofFn fun i => markAt b (68 + 7 * i.val)
  signature :=
    if flagged b 2 then some (Vector.ofFn fun i => BitVec.ofNat 4 (nibbleAt (slice b 52 8) i.val)) else none
  sigMask := BitVec.ofNat 16 (wordAt b 60)
  matchEnable := flagged b 3
  preset := if flagged b 4 then some ⟨wordAt b 62, wordAt b 64, wordAt b 66⟩ else none

/-- Whether a page image agrees with its check and its fields lie within the values of R155. The fields of a
clear presence flag are zeros (DEDUCED, unsafe, log 16). -/
def pageSound (b : List Byte) : Bool :=
  crcHolds b 128 && decide (byteAt b 0 < 64) && decide (byteAt b 1 ≤ 2) && decide (byteAt b 3 ≤ 3)
    && decide (byteAt b 4 ≤ 5)
    && (List.range 12).all (fun i => decide (nibbleAt (slice b 5 6) i ≤ 5) || nibbleAt (slice b 5 6) i == 15)
    && labelOk (slice b 11 25)
    && (if flagged b 0 then (List.range 4).all (fun n => !(pointAt b n).bad) else zerosAt b 36 16)
    && (flagged b 2 || zerosAt b 52 8)
    && (if flagged b 4 then !(Preset.bad ⟨wordAt b 62, wordAt b 64, wordAt b 66⟩) else zerosAt b 62 6)
    && (List.range 8).all (fun i => markOk b (68 + 7 * i)) && decide (byteAt b 124 ≤ 63)

/-- Block frames `first` on of an area, with a picture of n blocks written into them (R154, R160). -/
def writeFrames (v : Vector (Option BlockFrame) 64) (first n : Nat) (p : Picture) :
    Vector (Option BlockFrame) 64 :=
  (List.range n).foldl (fun v i => v.set (Fin.ofNat 64 (first + i)) (some ⟨p, i, n⟩)) v

/-- The n block frames from `first` on. -/
def framesAt (v : Vector (Option BlockFrame) 64) (first n : Nat) : List (Option BlockFrame) :=
  (List.range n).map fun i => (v.toList.getD (first + i) none)

/-- The picture of block frames: that of the whole picture they hold in order, or else one the spec does not
give (DESIGN CHOICE, safe, log 31). -/
def pictureOf (l : List (Option BlockFrame)) : Picture :=
  match l with
  | some f :: _ =>
    if l = (List.range l.length).map fun i => some ⟨f.picture, i, l.length⟩ then f.picture
    else Config.mixedPicture l
  | _ => Config.mixedPicture l

/-- Writes a page image (R160). -/
def Area.writePage (a : Area) (k : Nat) (x : Setup) (still : Bool) (first : Nat) : Area :=
  a.put (pageOffset k) (pageBytes x still first)

/-- Writes the picture of a still into its block frames (R160). -/
def Area.writePicture (a : Area) (first n : Nat) (p : Picture) : Area :=
  { a with frames := writeFrames a.frames first n p }

/-- Reads page image k, absent where it is not sound (R164). -/
def Area.readPage (a : Area) (k : Nat) : Option (List Byte) :=
  if a.answers then
    match a.read (pageOffset k) 130 with
    | some b => if pageSound b then some b else none
    | none => none
  else none

end Sys2Proof.Machine
end

