-- ==== Sys2Proof/Machine/Flash.lean ====
section
/-! DEFINITION. The Lesson Flash Controller: commit, load, abandon and erase, and the ends of their flash steps
(R156 to R167). -/

namespace Sys2Proof.Machine

/-- Rewrites the lesson flash area of lesson l. -/
def State.modArea (s : State) (l : Fin 8) (f : Area → Area) : State :=
  { s with areas := s.areas.set l (f s.areas[l]) }

/-- Writes the descriptor of area l. -/
def State.setDesc (s : State) (l : Fin 8) (d : AreaDesc) : State := { s with descs := s.descs.set l d }

/-- The time limit of the step in flight, in milliseconds (R156). -/
def flashStepLimitMs : FlashOp → Nat
  | .commit _ .erase => 10000
  | .commit _ .header => 50
  | .commit _ (.page _) => 3000
  | .commit _ .marker => 50
  | .load _ .header => 50
  | .load _ (.page _) => 3000
  | .clear _ => 50

/-! ### LESSON.COMMIT (R158, R159) -/

/-- What an accepted commit does (R159). -/
def State.beginCommit (s : State) (l : Fin 8) : State :=
  let t := s.modLesson l fun x => { x with st := .committing, progress := some 0, stored := false }
  { (t.modArea l Area.clear).setDesc l .invalid with op := some (.commit l .erase) }

/-- LESSON.COMMIT at its block (R158). -/
def lessonCommitBlock (lvl : Level) (lesson : Nat) (s : State) : Result :=
  let x := s.lesson (lessonIdx lesson)
  guarded s
    [(badLesson lesson, .range), (x.st == .committing, .busy), (x.st != .opened, .state),
      (s.op.isSome, .busy), (!lvl.passes x.lock, .locked),
      (x.order.any fun i => (s.page i).fill.isSome, .busy)]
    (accepted (s.beginCommit (lessonIdx lesson)) .empty)

/-- LESSON.COMMIT (R158). -/
def execLessonCommit (lvl : Level) (lesson : Nat) (s : State) : Host.Outcome State Fault Refusal :=
  conclude (lessonCommitBlock lvl lesson s)

/-! ### Commit phases (R160, R161) -/

/-- The directory entry of a record: its still, or none (R160). -/
def State.dirEntry (s : State) (i : Fin 64) : Option DirEntry :=
  (s.page i).still.map fun k => ⟨(s.slot k).blocks, (s.slot k).kind, (s.slot k).light⟩

/-- The still directory of lesson l as it stands (R160). -/
def State.directory (s : State) (l : Fin 8) : List (Option DirEntry) :=
  (List.range 32).map fun k =>
    if k < (s.lesson l).order.length then s.dirEntry (s.entryAt l k) else none

/-- The header of lesson l as it stands (R160). -/
def State.headerOf (s : State) (l : Fin 8) : HeaderVals where
  pages := (s.lesson l).order.length
  stills := ((s.directory l).filter Option.isSome).length
  blocks := ((s.directory l).map dirBlocks).sum
  lock := (s.lesson l).lock
  label := (s.lesson l).label
  dir := s.directory l

/-- The blocks of the stills of the pages before page k (R160, R164). -/
def blocksBefore (dir : List (Option DirEntry)) (k : Nat) : Nat := ((dir.take k).map dirBlocks).sum

/-- The first block of page k: the blocks before it, or 0 for a page without a still (R155, R160). -/
def firstBlock (dir : List (Option DirEntry)) (k : Nat) : Nat :=
  if (dir.getD k none).isSome then blocksBefore dir k else 0

/-- Writes page k of lesson l into its area (R160). -/
def State.writePage (s : State) (l : Fin 8) (k : Nat) : State :=
  let r := s.page (s.entryAt l k)
  let first := firstBlock (s.directory l) k
  let t := s.modArea l fun a => a.writePage k r.setup r.still.isSome first
  match r.still with
  | some j =>
    t.modArea l fun a => a.writePicture first (s.slot j).blocks ((s.slot j).picture.getD .black)
  | none => t

/-- Goes on to a phase of the commit. -/
def State.commitPhase (s : State) (l : Fin 8) (p : CommitPhase) : State := { s with op := some (.commit l p) }

/-- The phase after HEADER or page k - 1: page k where there is one, then MARKER (R160). -/
def State.pageOrMarker (s : State) (l : Fin 8) (k : Nat) : CommitPhase :=
  if k < (s.lesson l).order.length then .page k else .marker

/-- A commit completes (R160). -/
def State.completeCommit (s : State) (l : Fin 8) : State :=
  let h := s.headerOf l
  let t := (s.lesson l).order.foldl (fun t i => t.modPage i fun r => { r with dirty := false }) s
  let t := t.modLesson l fun x =>
    { x with st := .opened, stored := true, lost := false, progress := none, dirty := false }
  { (t.setDesc l ⟨true, true, some h⟩) with op := none }.setFlag .commitDone

/-- The end of a commit's phase (R160). -/
def State.commitPhaseEnd (s : State) (l : Fin 8) : CommitPhase → State
  | .erase => (s.modArea l Area.erase).commitPhase l .header
  | .header => (s.modArea l fun a => a.writeHeader l (s.headerOf l)).commitPhase l (s.pageOrMarker l 0)
  | .page k =>
    ((s.writePage l k).modLesson l fun x => { x with progress := x.progress.map (· + 1) }).commitPhase l
      (s.pageOrMarker l (k + 1))
  | .marker => (s.modArea l Area.writeMarker).completeCommit l

/-- COMMIT_PHASE_END (R160). With no commit in flight it changes nothing (log 4). -/
def execCommitPhaseEnd (s : State) : Host.Outcome State Fault Refusal :=
  .next (match s.op with
    | some (.commit l p) => s.commitPhaseEnd l p
    | _ => s)

/-- A commit fails, or is abandoned (R161, R166). -/
def State.failCommit (s : State) (l : Fin 8) : State :=
  let t := s.modLesson l fun x =>
    { x with st := .opened, stored := false, lost := true, dirty := true, progress := none }
  { t with op := none }.setFlag .opFailed

/-! ### LESSON.LOAD (R162, R163) -/

/-- Allocates the record of one page of a load, LOADING and not dirty (log 30), and its slot where the page
has a still (R163). -/
def State.reservePage (s : State) (entry : Option DirEntry) : State :=
  match s.lowestFree with
  | none => s
  | some i =>
    let t := s.allocate i .loading false
    match entry, t.lowestFreeSlot with
    | some e, some k =>
      t.startFill k i .load none fun x => { x with blocks := e.blocks, kind := e.kind, light := e.light }
    | _, _ => t

/-- What an accepted load does (R163). -/
def State.beginLoad (s : State) (l : Fin 8) (h : HeaderVals) : State :=
  let t := s.modLesson l fun x => { x with st := .loading, label := h.label, lock := h.lock }
  { (h.dir.take h.pages).foldl State.reservePage t with op := some (.load l .header) }

/-- LESSON.LOAD at its block (R162). -/
def lessonLoadBlock (lvl : Level) (lesson : Nat) (s : State) : Result :=
  let l := lessonIdx lesson
  match firstFailure [(badLesson lesson, .range),
      ((s.lesson l).st != .absent || !(s.lesson l).stored, .state), (s.op.isSome, .busy),
      (!s.descs[l].sound, .state)] with
  | some c => refuse s c
  | none =>
    match s.descs[l].header with
    | none => refuse s .state
    | some h =>
      guarded s
        [(!lvl.passes h.lock, .locked), (decide (s.freeRecordCount < h.pages), .full),
          (decide (s.freeSlotCount < h.stills) || decide (s.freeBlocks < h.blocks), .noStill)]
        (accepted (s.beginLoad l h) .empty)

/-- LESSON.LOAD (R162). -/
def execLessonLoad (lvl : Level) (lesson : Nat) (s : State) : Host.Outcome State Fault Refusal :=
  conclude (lessonLoadBlock lvl lesson s)

/-! ### Load phases (R164, R165) -/

/-- The LOADING records, which are those of the load in flight, in page order (R163). -/
def State.loadingRecords (s : State) : List (Fin 64) :=
  (List.finRange 64).filter fun i => (s.page i).st == .loading

/-- The record of page k of the load in flight (R163). -/
def State.loadRecord (s : State) (k : Nat) : Option (Fin 64) := s.loadingRecords[k]?

/-- A LOADING record becomes FREE, its fill pending with it; it keeps its generation (R165). -/
def State.dropLoading (s : State) (i : Fin 64) : State :=
  let t := match (s.page i).fill with
    | some k => s.freeSlot k
    | none => s
  t.modPage i fun r => Record.blank r.gen

/-- A load ends without completing (R165). -/
def State.endLoad (s : State) (l : Fin 8) : State :=
  { (s.loadingRecords.foldl State.dropLoading s).makeAbsent l with op := none }

/-- A load fails (R165). -/
def State.failLoad (s : State) (l : Fin 8) : State := (s.endLoad l).setFlag .opFailed

/-- A LOADING record becomes OPEN in lesson l, and its fill becomes its still (R63, R164). -/
def State.openLoaded (l : Fin 8) (s : State) (i : Fin 64) : State :=
  let t := match (s.page i).fill with
    | some k => s.modSlot k fun x => { x with st := .ready, source := none, phase := none }
    | none => s
  t.modPage i fun r =>
    { r with st := .opened, lesson := some l, still := r.fill, fill := none, dirty := false, selRefs := 0,
             cycRefs := 0, holds := 0 }

/-- A load completes (R164). -/
def State.completeLoad (s : State) (l : Fin 8) : State :=
  let order := s.loadingRecords
  let t := order.foldl (State.openLoaded l) s
  let t := t.modLesson l fun x =>
    { x with st := .opened, order := order, cursor := none, dirty := false, stored := true, lost := false }
  { t with op := none }.setFlag .loadDone

/-- Goes on to page k of the load, or completes it (R164). -/
def State.loadNext (s : State) (l : Fin 8) (pages k : Nat) : State :=
  if k < pages then { s with op := some (.load l (.page k)) } else s.completeLoad l

/-- Whether a page image read belongs with the directory: its still flag and its first block (R164; for a
page without a still the first block is 0, DEDUCED, unsafe, log 15). -/
def pageFits (dir : List (Option DirEntry)) (k : Nat) (b : List Byte) : Bool :=
  flagged b 5 == (dir.getD k none).isSome && byteAt b 124 == firstBlock dir k

/-- The picture the block frames of page k's still hold (R164). -/
def State.loadedPicture (s : State) (l : Fin 8) (dir : List (Option DirEntry)) (k : Nat) : Picture :=
  pictureOf (framesAt s.areas[l].frames (firstBlock dir k) (dirBlocks (dir.getD k none)))

/-- The picture of page k's still goes into the slot that is its record's fill pending (R164). -/
def State.fillLoaded (s : State) (l : Fin 8) (dir : List (Option DirEntry)) (k : Nat) (i : Fin 64) : State :=
  match (s.page i).fill with
  | some j => s.modSlot j fun x => { x with picture := some (s.loadedPicture l dir k) }
  | none => s

/-- Page image k is written into page k's record, with the picture of its still (R164). -/
def State.writeLoaded (s : State) (l : Fin 8) (dir : List (Option DirEntry)) (k : Nat) (b : List Byte) :
    State :=
  match s.loadRecord k with
  | some i => (s.modPage i fun r => { r with setup := pageSetup b }).fillLoaded l dir k i
  | none => s

/-- The end of page k of a load: the image is judged, and written into its record (R164). -/
def State.loadPage (s : State) (l : Fin 8) (h : HeaderVals) (k : Nat) : State :=
  match s.areas[l].readPage k with
  | some b =>
    if pageFits h.dir k b then (s.writeLoaded l h.dir k b).loadNext l h.pages (k + 1) else s.failLoad l
  | none => s.failLoad l

/-- The end of a load's phase (R164). -/
def State.loadPhaseEnd (s : State) (l : Fin 8) (p : LoadPhase) : State :=
  match s.descs[l].header, p with
  | some h, .header =>
    if s.areas[l].readHeader l = some h ∧ s.areas[l].markerValid then s.loadNext l h.pages 0
    else s.failLoad l
  | some h, .page k => s.loadPage l h k
  | none, _ => s.failLoad l

/-- LOAD_PHASE_END (R164). With no load in flight it changes nothing (log 4). -/
def execLoadPhaseEnd (s : State) : Host.Outcome State Fault Refusal :=
  .next (match s.op with
    | some (.load l p) => s.loadPhaseEnd l p
    | _ => s)

/-! ### LESSON.ABANDON (R166) -/

/-- LESSON.ABANDON at its block (R166). -/
def lessonAbandonBlock (lvl : Level) (lesson : Nat) (s : State) : Result :=
  let l := lessonIdx lesson
  guarded s
    [(badLesson lesson, .range),
      ((s.lesson l).st != .committing && (s.lesson l).st != .loading, .state),
      (!lvl.passes (s.lesson l).lock, .locked)]
    (done (if (s.lesson l).st = .committing then s.failCommit l else s.endLoad l))

/-- LESSON.ABANDON (R166). -/
def execLessonAbandon (lvl : Level) (lesson : Nat) (s : State) : Host.Outcome State Fault Refusal :=
  conclude (lessonAbandonBlock lvl lesson s)

/-! ### LESSON.ERASE (R167) -/

/-- The lock an erase must pass: the greater of the lesson's and a sound header's (R167). -/
def State.eraseLock (s : State) (l : Fin 8) : Level :=
  match s.descs[l].header with
  | some h => if s.descs[l].sound then (s.lesson l).lock.max h.lock else (s.lesson l).lock
  | none => (s.lesson l).lock

/-- What an accepted erase does (R167). -/
def State.beginErase (s : State) (l : Fin 8) : State :=
  let t := s.modLesson l fun x =>
    { x with stored := false, lost := false, dirty := x.dirty || x.st == .opened }
  { (t.modArea l Area.clear).setDesc l .invalid with op := some (.clear l) }

/-- LESSON.ERASE at its block (R167). -/
def lessonEraseBlock (lvl : Level) (lesson : Nat) (s : State) : Result :=
  let l := lessonIdx lesson
  guarded s
    [(badLesson lesson, .range), ((s.lesson l).st == .loading || (s.lesson l).st == .committing, .busy),
      (s.op.isSome, .busy), (!lvl.passes (s.eraseLock l), .locked)]
    (done (s.beginErase l))

/-- LESSON.ERASE (R167). -/
def execLessonErase (lvl : Level) (lesson : Nat) (s : State) : Host.Outcome State Fault Refusal :=
  conclude (lessonEraseBlock lvl lesson s)

/-- CLEAR_END (R167). With no clear in flight it changes nothing (log 4). -/
def execClearEnd (s : State) : Host.Outcome State Fault Refusal :=
  .next (match s.op with
    | some (.clear _) => { s with op := none }
    | _ => s)

/-! ### Failures and time limits (R160, R161, R164, R167) -/

/-- The step in flight fails: a commit or a load fails, a clear ends without a flag (R161, R164, R167; log
23). -/
def State.stepFails (s : State) : State :=
  match s.op with
  | some (.commit l _) => s.failCommit l
  | some (.load l _) => s.failLoad l
  | some (.clear _) => { s with op := none }
  | none => s

/-- Whether the step in flight is the ERASE phase of a commit. -/
def State.inErasePhase (s : State) : Bool :=
  match s.op with
  | some (.commit _ .erase) => true
  | _ => false

/-- FLASH_STEP_FAILURE: a failure reported for the clear alone does not fail a commit in ERASE (R160, R161,
R164, R167). -/
def execFlashStepFailure (clearAlone : Bool) (s : State) : Host.Outcome State Fault Refusal :=
  .next (if clearAlone ∧ s.inErasePhase then s else s.stepFails)

/-- FLASH_STEP_TIMEOUT: the step in flight has not ended within its time limit (R161, R164, R167). -/
def execFlashStepTimeout (s : State) : Host.Outcome State Fault Refusal := .next s.stepFails

end Sys2Proof.Machine
end

