-- ==== Sys2Proof/Machine/Views.lean ====
section
/-! DEFINITION. View Control: staged writes, takes, the apply, ramps, applied zoom and centre, and the VIEW
commands (R115 to R134). -/

namespace Sys2Proof

open Machine

/-- Whether a selection has a handle where it may not, or none where it must (R128). -/
def SelectForm.malformed (f : SelectForm) : Bool :=
  match f.kind with
  | .val .page => f.handle.isNone
  | .val _ => f.handle.isSome
  | .other => false

/-- Whether a fallback has a handle where it may not, or none where it must (R128). -/
def FallbackForm.malformed (f : FallbackForm) : Bool :=
  match f.kind with
  | .val .page => f.handle.isNone
  | .val _ => f.handle.isSome
  | .other => false

/-- The handle a checked PAGE payload names. -/
def PageRef.handle (h : PageRef) : Handle := ⟨h.record, h.gen⟩

/-- The selection a checked payload names (R128). -/
def SelectForm.selection (f : SelectForm) : Selection :=
  match f.kind, f.handle with
  | .val .live, _ => .live
  | .val .page, some h => .page h.handle
  | .val .cycle, _ => .cycle
  | _, _ => .blank

/-- The fallback a checked payload names (R128). -/
def FallbackForm.fallback (f : FallbackForm) : Fallback :=
  match f.kind, f.handle with
  | .val .last, _ => .last
  | .val .page, some h => .page h.handle
  | _, _ => .blank

end Sys2Proof

namespace Sys2Proof.Machine

/-! ### Writes to sets of views (R116, R117) -/

/-- The checks of a handle a selection, fallback or show-cycle entry names (R117). -/
def State.pageChecks (s : State) : Option PageRef → List Check
  | some h => [(h.badIndex || h.record == 0, .range), (!s.isCurrent h, .stale)]
  | none => []

/-- Acts on every view of a set, lowest number first (R116). -/
def State.eachView (s : State) (vs : ViewSet) (f : State → ViewId → State) : State := (viewsOf vs).foldl f s

/-- Rewrites the staged half of a view. -/
def State.modStaged (s : State) (v : ViewId) (f : Half → Half) : State :=
  s.modView v fun c => { c with staged := f c.staged }

/-! ### VIEW.SELECT (R128) -/

/-- VIEW.SELECT's effect on one view (R128). -/
def State.select (s : State) (form : SelectForm) (v : ViewId) : State :=
  (s.stage v form.selection).modStaged v fun h => { h with follow := itemOr form.follow h.follow }

/-- VIEW.SELECT at its block (R128). -/
def viewSelectBlock (views : ViewSet) (form : SelectForm) (s : State) : Result :=
  guarded s
    ([(form.kind.bad || badItem form.follow, .range), (form.malformed, .argument)] ++ setChecks views
      ++ s.pageChecks form.handle)
    (done (s.eachView views fun t v => t.select form v))

/-- VIEW.SELECT (R128). -/
def execViewSelect (views : ViewSet) (form : SelectForm) (s : State) : Host.Outcome State Fault Refusal :=
  conclude (viewSelectBlock views form s)

/-! ### VIEW.FALLBACK (R127, R128) -/

/-- VIEW.FALLBACK's effect on one view (R119, R127). -/
def State.setFallback (s : State) (f : Fallback) (v : ViewId) : State :=
  (s.moveSel (s.view v).fallback.page? f.page?).modView v fun c => { c with fallback := f }

/-- VIEW.FALLBACK at its block (R128). -/
def viewFallbackBlock (lvl : Level) (views : ViewSet) (form : FallbackForm) (s : State) : Result :=
  guarded s
    ([(form.kind.bad, .range), (form.malformed, .argument)] ++ setChecks views ++ s.pageChecks form.handle
      ++ [ownerCheck lvl])
    (done (s.eachView views fun t v => t.setFallback form.fallback v))

/-- VIEW.FALLBACK (R128). -/
def execViewFallback (lvl : Level) (views : ViewSet) (form : FallbackForm) (s : State) :
    Host.Outcome State Fault Refusal :=
  conclude (viewFallbackBlock lvl views form s)

/-! ### VIEW.ZOOM, VIEW.PAN, VIEW.ROUTE (R129 to R131) -/

/-- VIEW.ZOOM at its block (R129). -/
def viewZoomBlock (views : ViewSet) (form : ZoomForm) (s : State) : Result :=
  guarded s
    ([(form.target.isNone && form.rate.isNone, .argument),
        (outside 256 2048 form.target || outside 1 64 form.rate, .range)] ++ setChecks views)
    (done (s.eachView views fun t v => t.modStaged v fun h =>
      { h with target := form.target.getD h.target, rate := form.rate.getD h.rate }))

/-- VIEW.ZOOM (R129). -/
def execViewZoom (views : ViewSet) (form : ZoomForm) (s : State) : Host.Outcome State Fault Refusal :=
  conclude (viewZoomBlock views form s)

/-- VIEW.PAN at its block (R130). -/
def viewPanBlock (views : ViewSet) (x y : Nat) (s : State) : Result :=
  guarded s ([(badCoord x || badCoord y, .range)] ++ setChecks views)
    (done (s.eachView views fun t v => t.modStaged v fun h => { h with panX := x, panY := y }))

/-- VIEW.PAN (R130). -/
def execViewPan (views : ViewSet) (x y : Nat) (s : State) : Host.Outcome State Fault Refusal :=
  conclude (viewPanBlock views x y s)

/-- VIEW.ROUTE at its block (R131). -/
def viewRouteBlock (lvl : Level) (views : ViewSet) (route : Code Route) (s : State) : Result :=
  guarded s
    ([(route.bad, .range)] ++ setChecks views
      ++ [(route == .val .mirror && ViewId.inSet views .proj, .range), ownerCheck lvl])
    (done (s.eachView views fun t v => t.modStaged v fun h => { h with route := route.getD .normal }))

/-- VIEW.ROUTE (R131). -/
def execViewRoute (lvl : Level) (views : ViewSet) (route : Code Route) (s : State) :
    Host.Outcome State Fault Refusal :=
  conclude (viewRouteBlock lvl views route s)

/-! ### VIEW.MODE (R132) -/

/-- VIEW.MODE's effect on one view: a change of apply mode leaves it unarmed (R132). -/
def ViewCtx.setMode (form : ModeForm) (c : ViewCtx) : ViewCtx :=
  let mode := itemOr form.applyMode c.applyMode
  { c with
    applyMode := mode
    armed := if mode = c.applyMode then c.armed else false
    staged :=
      { c.staged with
        steady := itemOr form.steady c.staged.steady
        marksShown := itemOr form.marksShown c.staged.marksShown
        follow := itemOr form.follow c.staged.follow } }

/-- VIEW.MODE at its block (R132). -/
def viewModeBlock (views : ViewSet) (form : ModeForm) (s : State) : Result :=
  guarded s
    ([(form.applyMode.isNone && form.steady.isNone && form.marksShown.isNone && form.follow.isNone,
          .argument),
        (badItem form.applyMode || badItem form.steady || badItem form.marksShown || badItem form.follow,
          .range)] ++ setChecks views)
    (done (s.eachView views fun t v => t.modView v fun c => c.setMode form))

/-- VIEW.MODE (R132). -/
def execViewMode (views : ViewSet) (form : ModeForm) (s : State) : Host.Outcome State Fault Refusal :=
  conclude (viewModeBlock views form s)

/-! ### Takes (R121, R133) -/

/-- Arms a view that is in AT_TAKE (R121). -/
def State.armView (s : State) (v : ViewId) : State :=
  s.modView v fun c => { c with armed := c.armed || c.applyMode == .atTake }

/-- TAKE_EDGE: every view in AT_TAKE becomes armed (R121). -/
def execTakeEdge (s : State) : Host.Outcome State Fault Refusal :=
  .next (((s.armView .proj).armView .strm).armView .panel)

/-- The views of a set that are in AT_TAKE (R133). -/
def State.takeViews (s : State) (vs : ViewSet) : List ViewId :=
  (viewsOf vs).filter fun v => (s.view v).applyMode == .atTake

/-- VIEW.TAKE at its block (R133). -/
def viewTakeBlock (views : ViewSet) (s : State) : Result :=
  guarded s (setChecks views ++ [((s.takeViews views).isEmpty, .state)])
    (doneWith (s.eachView views State.armView) (.armed (s.takeViews views)))

/-- VIEW.TAKE (R133). -/
def execViewTake (views : ViewSet) (s : State) : Host.Outcome State Fault Refusal :=
  conclude (viewTakeBlock views s)

/-! ### VIEW.READ (R134) -/

/-- VIEW.READ at its block (R134). -/
def viewReadBlock (views : ViewSet) (s : State) : Result :=
  guarded s (setChecks views) (doneWith s (.view (lowestView views) (s.view (lowestView views))))

/-- VIEW.READ (R134). -/
def execViewRead (views : ViewSet) (s : State) : Host.Outcome State Fault Refusal :=
  conclude (viewReadBlock views s)

/-! ### The apply (R120, R122) -/

/-- Whether an apply is due (R120). -/
def ViewCtx.applies (c : ViewCtx) : Bool := c.applyMode == .atFrame || c.armed

/-- The preset an apply reads: that of the record a new PAGE selection names, where the noted selection did
not name the same record (R122). -/
def State.presetRead (s : State) (noted new : Selection) : Option Preset :=
  match new.page? with
  | some i => if noted.page? = some i then none else (s.page i).setup.preset
  | none => none

/-- Writes a preset into a half (R122). -/
def Half.usePreset (h : Half) : Option Preset → Half
  | some p => { h with target := p.zoom, panX := p.x, panY := p.y }
  | none => h

/-- The apply of a view (R120). -/
def State.applyView (s : State) (v : ViewId) : State :=
  let c := s.view v
  let p := s.presetRead c.current.sel c.staged.sel
  (s.moveSel c.current.sel.page? c.staged.sel.page?).modView v fun c =>
    { c with staged := c.staged.usePreset p, current := c.staged.usePreset p, armed := false }

/-! ### The zoom computation (R123 to R126) -/

/-- The current zoom after the ramp step (R123). -/
def rampZoom (zoom target rate : Nat) : Nat :=
  if zoom ≤ target then min target (zoom + rate) else max target (zoom - rate)

/-- The applied zoom of a frame, from the current zoom after its ramp step (R124). -/
def appliedZoom (zoom target : Nat) (steady : Bool) (phase : Nat) : Nat :=
  let r := zoom % 4
  if r = 0 then zoom
  else if zoom ≠ target ∨ steady then zoom - r
  else if phase < r then zoom - r + 4
  else zoom - r

/-- The half-size of a window (R125). -/
def halfSize (z : Nat) : Nat := 2048 * 256 / z

/-- An applied centre coordinate: clamped to the interval, or 2048 where that is empty (R125). -/
def appliedCoord (pan z : Nat) : Nat :=
  if 4095 < 2 * halfSize z then 2048 else max (halfSize z) (min pan (4095 - halfSize z))

/-- The ramp step, and the dither phase's advance (R123, R124). -/
def ViewCtx.advance (c : ViewCtx) : ViewCtx :=
  { c with zoom := rampZoom c.zoom c.current.target c.current.rate, dither := c.dither + 1 }

/-- The applied zoom of the frame that starts (R124). -/
def ViewCtx.applied (c : ViewCtx) : Nat :=
  appliedZoom (rampZoom c.zoom c.current.target c.current.rate) c.current.target c.current.steady
    c.dither.val

/-- The applied centre of the frame that starts (R125). -/
def ViewCtx.centre (c : ViewCtx) : Nat × Nat :=
  (appliedCoord c.current.panX c.applied, appliedCoord c.current.panY c.applied)

end Sys2Proof.Machine
end

