-- ==== Sys2Proof/Machine/Detail.lean ====
section
/-! DEFINITION. The Detail Engine: band modes, strengths, band sets and the DETAIL commands (R102 to R114). -/

namespace Sys2Proof

open Machine

/-- Whether an offset lies outside -64..63 (R112). -/
def badOffset (o : Int) : Bool := decide (o < -64) || decide (63 < o)

end Sys2Proof

namespace Sys2Proof.Machine

/-! ### Modes and strengths (R103 to R107) -/

/-- The effective mode of a band (R103). -/
def Setup.effectiveMode (x : Setup) (b : Fin 12) : PageMode := x.overrides[b].getD x.pageMode

/-- The mode factor in eighths (R104). PLAIN has none. -/
def modeFactor : PageMode → Nat
  | .plain => 0
  | .text => 8
  | .fineLine => 12
  | .photo => 3
  | .chart => 6
  | .invert => 8

/-- The detail entry of an applied zoom (R105). -/
def detailEntry (z : Nat) : Nat := min 31 ((z - 256) / 56)

/-- The base strength and noise floor of an entry. -/
def Detail.entry (d : Detail) (k : Nat) : DetailEntry := d.table.toList.getD k ⟨0, 0⟩

/-- The offset a light level reads; with no light level, 0 (R106). -/
def Detail.offset (d : Detail) : Option (Fin 16) → Int
  | some l => d.light[l]
  | none => 0

/-- The strength of a band (R107). -/
def strength (base : Nat) (m : PageMode) (offset : Int) : Nat :=
  if m = .plain then 0 else min 255 (((base * modeFactor m / 8 : Nat) : Int) + offset).toNat

/-- A band of an enhanced frame (R107, R109). -/
def Detail.band (d : Detail) (k : Nat) (light : Option (Fin 16)) (m : PageMode) : Band where
  mode := some m
  strength := strength (d.entry k).base.toNat m (d.offset light)
  floor := if m = .plain then 0 else (d.entry k).floor.toNat
  inverted := m == .invert

/-- A band of a frame that is not enhanced (R109). -/
def Band.none : Band := ⟨.none, 0, 0, false⟩

/-! ### Bands of the page, and what an enhancement does (R103, R110) -/

/-- The first page row of band b: its rows run from 4096 b / 12 up to but not including 4096 (b + 1) / 12
(R103). -/
def bandTop (b : Nat) : Nat := (4096 * b + 11) / 12

/-- The band a page row falls in (R103). -/
def bandOfRow (row : Nat) : Nat := 12 * row / 4096

/-- The page rows of band b that a pan window about row y shows at zoom z, none where it does not cross the band
(R103, R125). -/
def bandRows (b z y : Nat) : Strip :=
  ⟨max (bandTop b) (y - halfSize z), min (bandTop (b + 1)) (y + halfSize z)⟩

/-- Whether a strip has a row. -/
def Strip.crossed (r : Strip) : Bool := decide (r.top < r.bottom)

/-- What the port does with the rows of a band: the inversion first, then the sharpening of a strength above 0
(R110). -/
def Band.acts (x : Band) (rows : Strip) : List BandAct :=
  (if x.inverted then [.invert rows] else [])
    ++ (if 0 < x.strength then [.sharpen rows x.strength x.floor] else [])

/-- The enhancement of a frame, band by band over the bands its window crosses (R103, R110). -/
def bandActs (bands : Vector Band 12) (z y : Nat) : List BandAct :=
  (List.finRange 12).flatMap fun (b : Fin 12) =>
    if (bandRows b.val z y).crossed then bands[b].acts (bandRows b.val z y) else []

/-- A tone in a band that is inverted: the greatest tone less the tone (R104). -/
def invertedTone (greatest tone : Nat) : Nat := greatest - tone

/-- The contrast of an edge in a band sharpened with a strength and a noise floor: raised in proportion to the
strength above the floor, left as it is at or below it (R110). A contrast is a byte, as floor 255 lets none be lifted
(DEDUCED, safe, log 36). By how much a step of strength raises it is a free value (DESIGN CHOICE, safe, log 36). -/
def sharpenedContrast (strength floor : Nat) (contrast : Byte) : Nat :=
  if contrast.toNat ≤ floor then contrast.toNat
  else contrast.toNat + strength * (Config.contrastGain contrast : Nat)

/-- What an act makes of a tone on page row `row` (R110). -/
def BandAct.tone (a : BandAct) (row greatest tone : Nat) : Nat :=
  match a with
  | .invert r => if r.top ≤ row ∧ row < r.bottom then invertedTone greatest tone else tone
  | .sharpen .. => tone

/-- What an act makes of the contrast of an edge on page row `row` (R110). -/
def BandAct.contrast (a : BandAct) (row : Nat) (contrast : Byte) : Nat :=
  match a with
  | .invert _ => contrast.toNat
  | .sharpen r strength floor =>
    if r.top ≤ row ∧ row < r.bottom then sharpenedContrast strength floor contrast
    else contrast.toNat

/-! ### Band sets (R108, R109) -/

/-- Whether a frame of this kind is enhanced (R109). -/
def SourceKind.isEnhanced : SourceKind → Bool
  | .livePage => true
  | .pageStill => true
  | _ => false

/-- The light level a frame of this kind uses (R106). -/
def State.frameLight (s : State) (kind : SourceKind) (slot : Option (Fin 24)) : Option (Fin 16) :=
  match kind, slot with
  | .livePage, _ => s.pfd.latest.map fun m => m.light
  | .pageStill, some k => some (s.slot k).light
  | _, _ => none

/-- The bands of a frame: by the record's setup on an enhanced frame, all zero otherwise (R109). -/
def State.frameBands (s : State) (kind : SourceKind) (record : Option Handle) (light : Option (Fin 16))
    (z : Nat) : Vector Band 12 :=
  match kind.isEnhanced, record with
  | true, some h =>
    Vector.ofFn fun b => s.dte.band (detailEntry z) light ((s.page h.idx).setup.effectiveMode b)
  | _, _ => .replicate 12 .none

/-- The band set of a frame (R108). -/
def State.bandSetOf (s : State) (kind : SourceKind) (record : Option Handle) (slot : Option (Fin 24))
    (z : Nat) : BandSet where
  kind := kind
  record := if kind.isEnhanced then record else none
  zoom := z
  entry := detailEntry z
  light := s.frameLight kind slot
  bands := s.frameBands kind record (s.frameLight kind slot) z
  inFlight := true

/-- Rewrites the Detail Engine. -/
def State.modDetail (s : State) (f : Detail → Detail) : State := { s with dte := f s.dte }

/-! ### DETAIL.TABLE (R111) -/

/-- Writes entries from s on (R111). -/
def writeTable (v : Vector DetailEntry 32) (start : Nat) : List DetailEntry → Vector DetailEntry 32
  | [] => v
  | e :: rest => writeTable (v.set (Fin.ofNat 32 start) e) (start + 1) rest

/-- DETAIL.TABLE at its block (R111). -/
def detailTableBlock (lvl : Level) (form : TableForm) (s : State) : Result :=
  guarded s
    [(decide (form.count < 1) || decide (29 < form.count), .range),
      (form.entries.length != form.count, .argument),
      (decide (31 < form.start) || decide (32 < form.start + form.count), .range), ownerCheck lvl]
    (doneWith (s.modDetail fun d => { d with table := writeTable d.table form.start form.entries })
      (.nextIndex (form.start + form.count)))

/-- DETAIL.TABLE (R111). -/
def execDetailTable (lvl : Level) (form : TableForm) (s : State) : Host.Outcome State Fault Refusal :=
  conclude (detailTableBlock lvl form s)

/-! ### DETAIL.LIGHT (R112) -/

/-- Writes offsets from s on (R112). -/
def writeLight (v : Vector Int 16) (start : Nat) : List Int → Vector Int 16
  | [] => v
  | o :: rest => writeLight (v.set (Fin.ofNat 16 start) o) (start + 1) rest

/-- DETAIL.LIGHT at its block (R112). -/
def detailLightBlock (lvl : Level) (form : LightForm) (s : State) : Result :=
  guarded s
    [(decide (form.count < 1) || decide (16 < form.count), .range),
      (form.offsets.length != form.count, .argument),
      (decide (15 < form.start) || decide (16 < form.start + form.count) || form.offsets.any badOffset,
        .range),
      ownerCheck lvl]
    (doneWith (s.modDetail fun d => { d with light := writeLight d.light form.start form.offsets })
      (.nextIndex (form.start + form.count)))

/-- DETAIL.LIGHT (R112). -/
def execDetailLight (lvl : Level) (form : LightForm) (s : State) : Host.Outcome State Fault Refusal :=
  conclude (detailLightBlock lvl form s)

/-! ### DETAIL.READ (R113, R114) -/

/-- DETAIL.READ on a VIEWS target at its block (R113). -/
def detailReadBandSetBlock (views : ViewSet) (s : State) : Result :=
  guarded s (setChecks views) (doneWith s (.bandSet (s.dte.bandSets.get (lowestView views))))

/-- DETAIL.READ on a VIEWS target (R113). -/
def execDetailReadBandSet (views : ViewSet) (s : State) : Host.Outcome State Fault Refusal :=
  conclude (detailReadBandSetBlock views s)

/-- DETAIL.READ on a NONE target at its block (R114). -/
def detailReadTablesBlock (s : State) : Result := doneWith s (.tables s.dte.table s.dte.light)

/-- DETAIL.READ on a NONE target (R114). -/
def execDetailReadTables (s : State) : Host.Outcome State Fault Refusal :=
  conclude (detailReadTablesBlock s)

end Sys2Proof.Machine
end

