-- ==== Sys2Proof/Machine/Ports.lean ====
section
/-! DEFINITION. The output ports: frame starts and ends, source resolution, pictures, fallback, show cycles
and sink flow, and the PORT and CYCLE commands (R135 to R153). -/

namespace Sys2Proof

open Machine

/-- Whether a show-cycle entry has a handle where it may not, or none where it must (R151). -/
def EntryArg.malformed (e : EntryArg) : Bool :=
  match e.kind with
  | .val .page => e.handle.isNone
  | _ => e.handle.isSome

/-- Whether a show-cycle entry is out of range (R151). -/
def EntryArg.bad (e : EntryArg) : Bool := e.kind.bad || decide (e.dwell < 1) || decide (4095 < e.dwell)

/-- The entry a checked payload entry carries (R151). -/
def EntryArg.entry (e : EntryArg) : CycleEntry where
  sel := match e.kind, e.handle with
    | .val .live, _ => .live
    | .val .page, some h => .page h.handle
    | _, _ => .blank
  dwell := e.dwell

/-- Whether a CYCLE.WRITE payload does not hold its n entries (R151). -/
def CycleForm.malformed (f : CycleForm) : Bool :=
  f.entries.length != f.count || f.entries.any EntryArg.malformed

/-- Whether a CYCLE.WRITE payload is out of range (R151). -/
def CycleForm.bad (f : CycleForm) : Bool :=
  decide (11 < f.start) || decide (f.count < 1) || decide (12 < f.count) || f.entries.any EntryArg.bad

end Sys2Proof

namespace Sys2Proof.Machine

/-! ### Show cycles (R145) -/

/-- The entry at a position. -/
def ShowCycle.at (c : ShowCycle) (p : Nat) : CycleEntry := c.entries.toList.getD p .blank

/-- The cycle started from its first entry (R145). -/
def ShowCycle.start (c : ShowCycle) : ShowCycle := { c with pos := 0, dwell := (c.at 0).dwell }

/-- The dwell counted down by one frame that ends (R145). -/
def ShowCycle.count (c : ShowCycle) : ShowCycle :=
  if c.dwell ≤ 1 then
    { c with pos := (c.pos + 1) % c.length, dwell := (c.at ((c.pos + 1) % c.length)).dwell }
  else { c with dwell := c.dwell - 1 }

/-! ### Resolving a source (R139, R142 to R144) -/

/-- A blank source. -/
def Source.blank : Source := ⟨.blank, none, none, .none, none, false⟩

/-- The live page through record i's setup (R139). -/
def State.liveSource (s : State) (i : Fin 64) : Source :=
  { Source.blank with kind := .livePage, record := some (s.handleOf i) }

/-- The kind of a frame that shows a still (R139). -/
def Slot.frameKind (x : Slot) : SourceKind :=
  match x.kind with
  | .page => .pageStill
  | .composed => .composedStill

/-- A record's still, where it has one (R139, R144). -/
def State.stillSource (s : State) (i : Fin 64) : Option Source :=
  (s.page i).still.map fun k =>
    { Source.blank with kind := (s.slot k).frameKind, record := some (s.handleOf i), slot := some k }

/-- What a record shows: its still, or the live page through its setup (R139). -/
def State.pageSource (s : State) (i : Fin 64) : Source := (s.stillSource i).getD (s.liveSource i)

/-- What a show-cycle entry at a position resolves to, before any fallback (R139, R145). -/
def State.entrySource (s : State) (p : Nat) : EntrySel → Source
  | .live => { s.liveSource 0 with cyclePos := some p }
  | .page h => { s.pageSource h.idx with cyclePos := some p }
  | .blank => { Source.blank with cyclePos := some p }

/-- What the current selection of a view resolves to, before any fallback (R139). -/
def State.selectionSource (s : State) (v : ViewId) : Source :=
  match (s.view v).current.sel with
  | .live => s.liveSource 0
  | .page h => s.pageSource h.idx
  | .cycle => s.entrySource (s.port v).cycle.pos ((s.port v).cycle.at (s.port v).cycle.pos).sel
  | .blank => .blank

/-- The fallback of a frame that needs the live picture (R144). -/
def State.fallbackSource (s : State) (v : ViewId) (src : Source) : Source :=
  match (s.view v).fallback with
  | .blank => { Source.blank with fallback := .blank, cyclePos := src.cyclePos }
  | .last =>
    if s.sin.lastGood.isSome then { src with fallback := .last }
    else { Source.blank with fallback := .last, cyclePos := src.cyclePos }
  | .page h => { (s.stillSource h.idx).getD .blank with fallback := .page, cyclePos := src.cyclePos }

/-- Whether a source needs the live picture (R144). -/
def Source.needsLive (src : Source) : Bool := src.kind == .livePage || src.kind == .raw

/-- The fallback substituted while Sensor Intake is not RUNNING (R144). -/
def State.withFallback (s : State) (v : ViewId) (src : Source) : Source :=
  if src.needsLive ∧ s.sin.st ≠ .running then s.fallbackSource v src else src

/-- The PROJ frame a MIRROR frame follows: that of a PROJ port RUNNING with a frame in flight (R142). -/
def State.mirrored (s : State) : Option FlightFrame :=
  if s.ports.proj.st = .running then s.ports.proj.frame else none

/-- The source of the frame that starts at a port (R137 step 3). -/
def State.resolve (s : State) (v : ViewId) : Source :=
  match (s.view v).current.route with
  | .normal => s.withFallback v (s.selectionSource v)
  | .raw => s.withFallback v { Source.blank with kind := .raw }
  | .mirror =>
    match s.mirrored with
    | some f => { f.source with mirrored := true }
    | none => .blank

/-! ### Zoom, centre and frame values (R126) -/

/-- Whether a frame of this kind composes a page picture (R140). -/
def SourceKind.composesPage : SourceKind → Bool
  | .livePage => true
  | .pageStill => true
  | .composedStill => true
  | _ => false

/-- The frame values of a frame that starts, before the view advances (R126; log 20). -/
def State.frameValues (s : State) (v : ViewId) (src : Source) : Option FrameValues :=
  let c := s.view v
  if src.mirrored then s.views.proj.frame.map fun f => { f with inFlight := true }
  else if src.kind.composesPage = false ∧ c.current.route = .raw then some ⟨c.applied, none, true⟩
  else some ⟨c.applied, some c.centre, true⟩

/-! ### Pictures (R140, R141, R143) -/

/-- The latest complete intake frame, or the last good picture (R69, R140, R144). -/
def State.sensorPicture (s : State) : Picture :=
  match s.sin.lastGood with
  | some n => .sensor n
  | none => .black

/-- The live page straightened through the choice of corners (R139). -/
def State.livePicture (s : State) : Picture :=
  match s.sin.lastGood with
  | some n => .straightened n s.cornerChoice
  | none => .black

/-- What a slot holds. -/
def State.slotPicture (s : State) : Option (Fin 24) → Picture
  | some k => (s.slot k).picture.getD .black
  | none => .black

/-- Turned and reversed by the showing record (R140 stage 1). -/
def State.turnedBy (s : State) (record : Option Handle) (p : Picture) : Picture :=
  match record with
  | some h => .turned p (s.page h.idx).setup.rotation (s.page h.idx).setup.mirror
  | none => p

/-- The page picture of a frame (R140 stage 1). -/
def State.pagePicture (s : State) (src : Source) : Picture :=
  match src.kind with
  | .livePage => s.turnedBy src.record s.livePicture
  | .pageStill => s.turnedBy src.record (s.slotPicture src.slot)
  | .composedStill => s.slotPicture src.slot
  | _ => .black

/-- The rectangle of a mark. -/
def Mark.rect (m : Mark) : Rect := ⟨m.x0, m.y0, m.x1, m.y1⟩

/-- Whether a rectangle has a part within a window of a zoom about a centre (R125, R141). DESIGN CHOICE,
unsafe (log 18): a rectangle includes its far edges. -/
def Rect.within (r : Rect) (z x y : Nat) : Bool :=
  decide (r.x0 < x + halfSize z) && decide (x ≤ r.x1 + halfSize z)
    && decide (r.y0 < y + halfSize z) && decide (y ≤ r.y1 + halfSize z)

/-- What one mark draws, `dimmed` saying whether a SPOTLIGHT was drawn before it: the first SPOTLIGHT dims to one
quarter, an OUTLINE's line is one sixteenth of a band high (R141). -/
def Mark.draw (spots : List Rect) (dimmed : Bool) (m : Mark) : List Draw :=
  match m.kind with
  | .spotlight => if dimmed then [] else [.dimOutside spots 4]
  | .cover => [.cover m.rect]
  | .outline => [.outline m.rect 1]

/-- Whether a page point lies in a rectangle, far edges included (log 18). -/
def Rect.holds (r : Rect) (x y : Nat) : Bool :=
  decide (r.x0 ≤ x) && decide (x ≤ r.x1) && decide (r.y0 ≤ y) && decide (y ≤ r.y1)

/-- Whether a page point lies on the line along the inside of a rectangle's edge, `sixteenths` sixteenths of a
band high: nearer to an edge than that part of the band's 4096 / 12 page units (R103, R141). -/
def Rect.onLine (r : Rect) (sixteenths x y : Nat) : Bool :=
  r.holds x y
    && decide (12 * 16 * min (min (x - r.x0) (r.x1 - x)) (min (y - r.y0) (r.y1 - y)) < 4096 * sixteenths)

/-- What a draw puts at a point of the frame: nothing, a dimming to one part in so many of the brightness there,
the uniform grey, or the line (R141). -/
inductive Paint
  | keep
  | dim (parts : Nat)
  | grey
  | line
  deriving DecidableEq, Repr

/-- What a draw puts at a page point (R141). -/
def Draw.at (d : Draw) (x y : Nat) : Paint :=
  match d with
  | .dimOutside rects parts => if rects.any fun r => r.holds x y then .keep else .dim parts
  | .cover r => if r.holds x y then .grey else .keep
  | .outline r sixteenths => if r.onLine sixteenths x y then .line else .keep

/-- What marks draw, in position order (R141). -/
def drawMarks (spots : List Rect) (dimmed : Bool) : List Mark → List Draw
  | [] => []
  | m :: rest => m.draw spots dimmed ++ drawMarks spots (dimmed || m.kind == .spotlight) rest

/-- The marks of a setup, empty positions skipped (R141). -/
def Setup.markList (x : Setup) : List Mark := x.marks.toList.filterMap id

/-- What a setup's marks draw in a window (R141). -/
def Setup.draws (x : Setup) (z cx cy : Nat) : List Draw :=
  drawMarks ((x.markList.filter fun m => m.kind == .spotlight).map Mark.rect) false
    (x.markList.filter fun m => m.rect.within z cx cy)

/-- The view whose marks-shown setting and frame values compose a frame (R142). -/
def Source.composer (src : Source) (v : ViewId) : ViewId := if src.mirrored then .proj else v

/-- The marks drawn on a frame (R140 stage 4, R141). -/
def State.frameDraws (s : State) (v : ViewId) (src : Source) (z cx cy : Nat) : List Draw :=
  match src.record with
  | some h =>
    if (s.view (src.composer v)).current.marksShown then (s.page h.idx).setup.draws z cx cy else []
  | none => []

/-- A picture with marks drawn on it (R140 stage 4). -/
def Picture.withDraws (p : Picture) (draws : List Draw) : Picture :=
  if draws.isEmpty then p else .marked p draws

/-- The picture of a frame, from its source, zoom, centre and bands (R140, R143). -/
def State.compose (s : State) (v : ViewId) (src : Source) (z : Nat) (centre : Option (Nat × Nat))
    (bands : Vector Band 12) : Picture :=
  match src.kind, centre with
  | .blank, _ => .black
  | .raw, _ => .sensorWindow s.sensorPicture (4096 * 256 / z) (3072 * 256 / z)
  | _, some (x, y) =>
    (Picture.enhanced (.pageWindow (s.pagePicture src) z x y) (bandActs bands z y)).withDraws
      (s.frameDraws v src z x y)
  | _, none => .black

/-! ### Frame start (R137) -/

/-- Whether CYCLE newly becomes the current selection at this frame start (R120). -/
def ViewCtx.startsCycle (c : ViewCtx) : Bool :=
  c.applies && c.staged.sel == .cycle && c.current.sel != .cycle

/-- Steps 1 and 2 of a frame start: the apply, and the start of a newly current cycle (R137). -/
def State.applyAtStart (s : State) (v : ViewId) : State :=
  let t := if (s.view v).applies then s.applyView v else s
  if (s.view v).startsCycle then t.modPort v fun p => { p with cycle := p.cycle.start } else t

/-- The band set of the frame that starts: a copy of PROJ's under MIRROR (R108, R109). -/
def State.frameBandSet (s : State) (src : Source) (z : Nat) : Option BandSet :=
  if src.mirrored then s.dte.bandSets.proj.map fun b => { b with inFlight := true }
  else some (s.bandSetOf src.kind src.record src.slot z)

/-- The bands of a band set. -/
def bandsOf : Option BandSet → Vector Band 12
  | some b => b.bands
  | none => .replicate 12 .none

/-- The zoom and centre of frame values. -/
def zoomOf (c : ViewCtx) : Option FrameValues → Nat
  | some f => f.zoom
  | none => c.applied

/-- The centre of frame values. -/
def centreOf : Option FrameValues → Option (Nat × Nat)
  | some f => f.centre
  | none => none

/-- The frame that starts, after steps 1 and 2 (R137 steps 3, 5 and 6, R140). -/
def State.newFrame (s : State) (v : ViewId) : FlightFrame where
  source := s.resolve v
  picture :=
    let src := s.resolve v
    let fv := s.frameValues v src
    s.compose v src (zoomOf (s.view v) fv) (centreOf fv)
      (bandsOf (s.frameBandSet src (zoomOf (s.view v) fv)))

/-- Steps 3 to 7 of a frame start (R137). -/
def State.beginFrame (s : State) (v : ViewId) : State :=
  let src := s.resolve v
  let fv := s.frameValues v src
  let t := s.takeHolds src
  let t := t.modView v fun c => { c.advance with frame := fv }
  let t := t.modDetail fun d =>
    { d with bandSets := d.bandSets.set v (s.frameBandSet src (zoomOf (s.view v) fv)) }
  let t := if v = .proj then t.captureFills .proj else t
  t.modPort v fun p => { p with frame := some (s.newFrame v) }

/-- A frame start at a port (R137). -/
def State.startFrame (s : State) (v : ViewId) : State := (s.applyAtStart v).beginFrame v

/-! ### Frame periods (R136, R146) -/

/-- STRM's frame period with ready sampled negated (R146). -/
def State.stall (s : State) : State :=
  let n := if s.ports.strm.st = .running then 1 else min 60 (s.ports.strm.stall + 1)
  let t := s.modPort .strm fun p => { p with st := .holding, ready := false, stall := n }
  if n = 60 then t.setFlag .strmStalled else t

/-- STRM's frame period with ready sampled asserted (R146). -/
def State.strmReady (s : State) : State :=
  (s.modPort .strm fun p => { p with st := .running, ready := true, stall := 0 }).startFrame .strm

/-- A frame period of a port. One in OFF or STOPPING, or with a frame in flight, cannot come and changes
nothing (R136; log 4). -/
def State.framePeriod (s : State) (v : ViewId) (ready : Bool) : State :=
  if (s.port v).frame.isSome then s
  else
    match (s.port v).st, v with
    | .running, .strm => if ready then s.strmReady else s.stall
    | .holding, .strm => if ready then s.strmReady else s.stall
    | .running, _ => s.startFrame v
    | _, _ => s

/-- PORT_FRAME_PERIOD (R136, R146). -/
def execPortFramePeriod (port : ViewId) (ready : Bool) (s : State) : Host.Outcome State Fault Refusal :=
  .next (s.framePeriod port ready)

/-! ### Frame end (R138) -/

/-- Clears the in-flight marks of a port's frame values and band set (R108, R126). -/
def State.clearMarksOf (s : State) (v : ViewId) : State :=
  (s.modView v fun c => { c with frame := c.frame.map fun f => { f with inFlight := false } }).modDetail
    fun d => { d with bandSets := d.bandSets.set v
                        ((d.bandSets.get v).map fun b => { b with inFlight := false }) }

/-- Counts the dwell of a frame whose source came from the port's own cycle (R138 step 2). -/
def State.countDwell (s : State) (v : ViewId) (src : Source) : State :=
  if src.cyclePos.isSome ∧ src.mirrored = false then s.modPort v fun p => { p with cycle := p.cycle.count }
  else s

/-- A stop that completes: the port is OFF, and on PROJ every fill still FILLING is aborted (R60). -/
def State.portOff (s : State) (v : ViewId) : State :=
  let t := s.modPort v fun p => { p with st := .off, stall := 0 }
  if v = .proj then t.abortFills .proj else t

/-- The end of a frame in flight (R138). -/
def State.endFrame (s : State) (v : ViewId) (f : FlightFrame) : State :=
  let t := (s.releaseHolds f.source).countDwell v f.source
  let t := if v = .proj then t.completeProjFills f.picture else t
  let t := if (s.port v).st = .stopping then t.portOff v else t
  (t.clearMarksOf v).modPort v fun p => { p with ended := p.ended + 1, frame := none }

/-- PORT_FRAME_END (R138). An end with no frame in flight changes nothing (log 4). -/
def execPortFrameEnd (port : ViewId) (s : State) : Host.Outcome State Fault Refusal :=
  .next (match (s.port port).frame with
    | some f => s.endFrame port f
    | none => s)

/-! ### PORT commands (R147 to R150) -/

/-- Whether a rate lies outside a port's range (R147). -/
def rateOutside (rate : Option Nat) : ViewId → Bool
  | .proj => outside 24 60 rate
  | .strm => outside 15 60 rate
  | .panel => outside 30 30 rate

/-- PORT.START's effect on one port (R147). -/
def State.startPort (s : State) (rate : Option Nat) (v : ViewId) : State :=
  s.modPort v fun p => { p with st := .running, rate := rate.getD p.rate }

/-- PORT.START at its block (R147). -/
def portStartBlock (lvl : Level) (views : ViewSet) (rate : Option Nat) (s : State) : Result :=
  guarded s
    ([(outside 15 60 rate, .range)] ++ setChecks views
      ++ [((viewsOf views).any (rateOutside rate), .range),
        ((viewsOf views).any fun v => (s.port v).st != .off, .state), ownerCheck lvl])
    (done (s.eachView views fun t v => t.startPort rate v))

/-- PORT.START (R147). -/
def execPortStart (lvl : Level) (views : ViewSet) (rate : Option Nat) (s : State) :
    Host.Outcome State Fault Refusal :=
  conclude (portStartBlock lvl views rate s)

/-- PORT.STOP's effect on one port (R148). -/
def State.stopPort (s : State) (v : ViewId) : State :=
  if (s.port v).st = .running ∧ (s.port v).frame.isSome then s.modPort v fun p => { p with st := .stopping }
  else s.portOff v

/-- PORT.STOP at its block (R148). -/
def portStopBlock (lvl : Level) (views : ViewSet) (s : State) : Result :=
  guarded s
    (setChecks views
      ++ [((viewsOf views).any fun v => (s.port v).st == .off || (s.port v).st == .stopping, .state),
        ownerCheck lvl])
    (done (s.eachView views State.stopPort))

/-- PORT.STOP (R148). -/
def execPortStop (lvl : Level) (views : ViewSet) (s : State) : Host.Outcome State Fault Refusal :=
  conclude (portStopBlock lvl views s)

/-- A frame in flight is abandoned (R149 step 1). -/
def State.abandonFrame (s : State) (v : ViewId) (f : FlightFrame) : State :=
  ((s.releaseHolds f.source).clearMarksOf v).modPort v fun p =>
    { p with abandoned := p.abandoned + 1, frame := none }

/-- PORT.RESET's effect on one port (R149). -/
def State.resetPort (s : State) (v : ViewId) : State :=
  (match (s.port v).frame with
    | some f => s.abandonFrame v f
    | none => s).portOff v

/-- PORT.RESET at its block (R149). -/
def portResetBlock (lvl : Level) (views : ViewSet) (s : State) : Result :=
  guarded s (setChecks views ++ [ownerCheck lvl]) (done (s.eachView views State.resetPort))

/-- PORT.RESET (R149). -/
def execPortReset (lvl : Level) (views : ViewSet) (s : State) : Host.Outcome State Fault Refusal :=
  conclude (portResetBlock lvl views s)

/-- What PORT.READ returns of a port (R150). -/
def State.portReply (s : State) (v : ViewId) : PortReply where
  port := v
  st := (s.port v).st
  rate := (s.port v).rate
  ended := (s.port v).ended
  abandoned := (s.port v).abandoned
  sink := if v = .strm then some ((s.port v).ready, (s.port v).stall) else none
  source := (s.port v).frame.map fun f => f.source
  cycle := (s.port v).cycle

/-- PORT.READ at its block (R150). -/
def portReadBlock (views : ViewSet) (s : State) : Result :=
  guarded s (setChecks views) (doneWith s (.port (s.portReply (lowestView views))))

/-- PORT.READ (R150). -/
def execPortRead (views : ViewSet) (s : State) : Host.Outcome State Fault Refusal :=
  conclude (portReadBlock views s)

/-! ### CYCLE commands (R151 to R153) -/

/-- Writes one entry of a port's cycle; the cycle refs move (R151). -/
def State.writeEntry (s : State) (v : ViewId) (p : Nat) (e : CycleEntry) : State :=
  (s.moveCyc ((s.port v).cycle.at (p % 12)).sel.page? e.sel.page?).modPort v fun x =>
    { x with cycle := { x.cycle with entries := x.cycle.entries.set (Fin.ofNat 12 p) e } }

/-- Writes entries from a position on, wrapping past position 11 (R151). -/
def State.writeEntries (s : State) (v : ViewId) (start : Nat) : List CycleEntry → State
  | [] => s
  | e :: rest => (s.writeEntry v start e).writeEntries v (start + 1) rest

/-- CYCLE.WRITE at its block (R151). -/
def cycleWriteBlock (views : ViewSet) (form : CycleForm) (s : State) : Result :=
  guarded s
    ([(form.malformed, .argument), (form.bad, .range)] ++ setChecks views
      ++ form.entries.flatMap fun e => s.pageChecks e.handle)
    (done (s.eachView views fun t v => t.writeEntries v form.start (form.entries.map EntryArg.entry)))

/-- CYCLE.WRITE (R151). -/
def execCycleWrite (views : ViewSet) (form : CycleForm) (s : State) : Host.Outcome State Fault Refusal :=
  conclude (cycleWriteBlock views form s)

/-- A cycle with a new length (R152). -/
def ShowCycle.setLength (c : ShowCycle) (n : Nat) : ShowCycle :=
  if n ≤ c.pos then { c with length := n, pos := 0, dwell := (c.at 0).dwell } else { c with length := n }

/-- CYCLE.LENGTH at its block (R152). -/
def cycleLengthBlock (views : ViewSet) (length : Nat) (s : State) : Result :=
  guarded s ([(decide (length < 1) || decide (12 < length), .range)] ++ setChecks views)
    (done (s.eachView views fun t v => t.modPort v fun p => { p with cycle := p.cycle.setLength length }))

/-- CYCLE.LENGTH (R152). -/
def execCycleLength (views : ViewSet) (length : Nat) (s : State) : Host.Outcome State Fault Refusal :=
  conclude (cycleLengthBlock views length s)

/-- A cycle with every entry BLANK (R153). -/
def ShowCycle.cleared (c : ShowCycle) : ShowCycle := ⟨.replicate 12 .blank, c.length, 0, 1⟩

/-- CYCLE.CLEAR's effect on one port (R153). -/
def State.clearCycle (s : State) (v : ViewId) : State :=
  ((s.port v).cycle.entries.toList.foldl (fun t e => t.dropCyc e.sel.page?) s).modPort v fun p =>
    { p with cycle := p.cycle.cleared }

/-- CYCLE.CLEAR at its block (R153). -/
def cycleClearBlock (views : ViewSet) (s : State) : Result :=
  guarded s (setChecks views) (done (s.eachView views State.clearCycle))

/-- CYCLE.CLEAR (R153). -/
def execCycleClear (views : ViewSet) (s : State) : Host.Outcome State Fault Refusal :=
  conclude (cycleClearBlock views s)

end Sys2Proof.Machine
end

