-- ==== Sys2Proof/Machine/Reset.lean ====
section
/-! DEFINITION. Power-on reset and soft reset (R7, R30, R48, R65, R70, R90, R102, R115, R135, R156, R169,
R188). -/

namespace Sys2Proof.Machine

/-- The descriptors as the areas read at a reset (R156). -/
def State.readAreas (s : State) : Vector AreaDesc 8 := Vector.ofFn fun l => s.areas[l].describe l

/-- A slot made FREE by a reset: as at power-on, with its kind and light level kept (R48, R49). -/
def Slot.afterReset (x : Slot) : Slot := { Slot.reset with kind := x.kind, light := x.light }

/-- The values of either reset, over what no reset changes: the kinds and light levels of the slots (R49), the
lesson flash, the ADMIN line (log 10), the commands that wait, and the counter of held clocks (log 38); each lesson's
stored flag is its area's valid marker (R30, R156). -/
def State.resetWith (s : State) (lost : Fin 8 → Bool) : State :=
  { State.reset with
    lessons := Vector.ofFn fun l => Lesson.absent (s.areas[l].describe l).valid (lost l)
    slots := s.slots.map Slot.afterReset
    areas := s.areas
    descs := s.readAreas
    lens := { Lens.reset with heldClocks := s.lens.heldClocks }
    link := { Link.reset with adminLine := s.link.adminLine }
    pending := s.pending }

/-- Power-on reset: every lost flag is no (R30). -/
def State.powerOn (s : State) : State := s.resetWith fun _ => false

/-- POWER_ON_RESET (R7). -/
def execPowerOnReset (s : State) : Host.Outcome State Fault Refusal := .next s.powerOn

/-- The bridge after a soft reset: a transaction on the bus runs on to its end in DRAINING, at the rate it
began with; what the latest transaction drove is no reset item (R169; log 37). DESIGN CHOICE, unsafe (log 40): where
that transaction is the AUTO requester's own, the AUTO request is absent at once, as in R169's table, and so the slot
is free while it drains; R81 ("or on the bus") and R171 ("not withdrawn by either") can be read as holding the slot
until it ends. -/
def Lens.afterSoft (x : Lens) : Lens :=
  let y := { Lens.reset with lines := x.lines, heldClocks := x.heldClocks }
  if x.bus = .idle then y else { y with bus := .draining, carried := x.carried }

/-- The lost flag of a lesson after a soft reset: kept, and yes for a lesson that was COMMITTING (R30). -/
def Lesson.lostAfterSoft (x : Lesson) : Bool := x.lost || x.st == .committing

/-- Soft reset: every block takes its values; the bytes a fetch has shifted out stand, as it completes them
(R188). -/
def State.softReset (s : State) : State :=
  let t := s.resetWith fun l => (s.lesson l).lostAfterSoft
  { t with lens := s.lens.afterSoft, link := { t.link with dataOut := s.link.dataOut } }

/-- DEV.RESET: refused LOCKED below OWNER, otherwise a soft reset, which gives no reply (R188). -/
def execDevReset (lvl : Level) (s : State) : Host.Outcome State Fault Refusal :=
  if lvl.passes .owner then .next s.softReset else conclude (refuse s .locked)

end Sys2Proof.Machine
end

