-- ==== Sys2Proof/Machine/Link.lean ====
section
/-! DEFINITION. The Control Link: telegrams judged, intake queue, dispatch to the owning blocks, replies and
fetches, the level ceiling, and the DEV commands (R176 to R188). -/

namespace Sys2Proof.Machine

/-- Rewrites the Control Link. -/
def State.modLink (s : State) (f : Link → Link) : State := { s with link := f s.link }

/-! ### Replies and fetches (R176, R181) -/

/-- The place of a result code in the table of result codes (R176). -/
def ResultCode.num : ResultCode → Nat
  | .ok => 0
  | .accepted => 1
  | .busy => 2
  | .stale => 3
  | .locked => 4
  | .level => 5
  | .full => 6
  | .noStill => 7
  | .referenced => 8
  | .range => 9
  | .state => 10
  | .dirty => 11
  | .target => 12
  | .argument => 13
  | .unknown => 14
  | .partialDone => 15

/-- The payload bytes of a reply, none for an empty payload, at most 250 (R176; log 6). -/
def replyPayload : ReplyBody → List Byte
  | .empty => []
  | b => (Config.replyPayload b).take 250

/-- A reply's bytes before its check (R176). -/
def Reply.core (r : Reply) : List Byte :=
  [r.tag0, r.tag1, byteOf r.answer.code.num, byteOf (replyPayload r.answer.body).length]
    ++ replyPayload r.answer.body

/-- A reply frame (R176). -/
def Reply.frame (r : Reply) : List Byte := r.core ++ crcBytes r.core

/-- n bytes of a frame, 0x00 past its last byte (R181). -/
def shiftOut (frame : List Byte) (n : Nat) : List Byte := (frame ++ List.replicate n 0).take n

/-- A fetch that clocks n bytes after the marker: it shifts out the oldest reply and removes it, or the empty
marker (R181). -/
def Link.fetch (x : Link) (n : Nat) : Link :=
  match x.replies with
  | r :: rest => { x with replies := rest, dataOut := Config.markerPeriodByte :: shiftOut r.frame n }
  | [] => { x with dataOut := Config.markerPeriodByte :: List.replicate n 0 }

/-- FETCH: `clocked` bits after the marker, of which the part of a byte at the end is disregarded (R177, R181). -/
def execFetch (clocked : Nat) (s : State) : Host.Outcome State Fault Refusal :=
  .next (s.modLink fun x => x.fetch (clocked / 8))

/-! ### Telegrams (R177 to R179) -/

/-- The fetch marker (R176). -/
def fetchMarker : Byte := 0xF0

/-- The byte of eight bits, most significant bit first (11_control_link_and_attention.md: "Bytes are shifted most
significant bit first"). -/
def byteOfBits (b7 b6 b5 b4 b3 b2 b1 b0 : Bool) : Byte :=
  BitVec.ofNat 8
    (128 * b7.toNat + 64 * b6.toNat + 32 * b5.toNat + 16 * b4.toNat + 8 * b3.toNat + 4 * b2.toNat
      + 2 * b1.toNat + b0.toNat)

/-- The whole bytes of the bits shifted in: the bits of a part byte at the end are disregarded (R177). -/
def wholeBytes : List Bool → List Byte
  | b7 :: b6 :: b5 :: b4 :: b3 :: b2 :: b1 :: b0 :: rest =>
    byteOfBits b7 b6 b5 b4 b3 b2 b1 b0 :: wholeBytes rest
  | _ => []

/-- Whether the bytes of a select period pass the framing checks (R178). -/
def framedOk (b : List Byte) : Bool :=
  decide (7 ≤ b.length) && decide (byteAt b 6 ≤ 60) && decide (9 + byteAt b 6 ≤ b.length)
    && crcHolds b (7 + byteAt b 6)

/-- The telegram that framed bytes carry (R176). -/
def telegramOf (b : List Byte) : Telegram where
  tag0 := b.getD 0 0
  tag1 := b.getD 1 0
  control := b.getD 2 0
  kind := b.getD 3 0
  value0 := b.getD 4 0
  value1 := b.getD 5 0
  payload := slice b 7 (byteAt b 6)

/-- A framed telegram joins the queue, waits in the assembly buffer, or takes it from one that is lost with
OVERRUN (R179). -/
def State.takeFramed (s : State) (t : Telegram) : State :=
  if s.link.intake.length < 4 then s.modLink fun x => { x with intake := x.intake ++ [t] }
  else
    let w := s.modLink fun x => { x with assembly := some t, ready := false }
    if s.link.assembly.isSome then w.setFlag .overrun else w

/-- A received telegram is dropped with LINK_ERROR or framed (R178). -/
def State.judge (s : State) (b : List Byte) : State :=
  if framedOk b then s.takeFramed (telegramOf b) else s.setFlag .linkError

/-- The bytes of a select period, judged at its negation: no bytes are disregarded, a fetch marker first is a
fetch (log 27), and during a telegram 0x00 is shifted out (R177). -/
def State.selectPeriod (s : State) : List Byte → State
  | [] => s
  | b :: rest =>
    if b = fetchMarker then s.modLink fun x => x.fetch rest.length
    else (s.modLink fun x => { x with dataOut := List.replicate (rest.length + 1) 0 }).judge (b :: rest)

/-- TELEGRAM_RECEIVED: the bits of a select period, judged at its negation by their whole bytes (R177, R178). -/
def execTelegramReceived (bits : List Bool) (s : State) : Host.Outcome State Fault Refusal :=
  .next (s.selectPeriod (wholeBytes bits))

/-! ### ADMIN and the level ceiling (R182) -/

/-- ADMIN_NEGATION (R182). -/
def execAdminNegation (s : State) : Host.Outcome State Fault Refusal :=
  .next (s.modLink fun x =>
    { x with adminLine := false, ceiling := if x.ceiling = .admin then .owner else x.ceiling })

/-- ADMIN_ASSERTION (R182). -/
def execAdminAssertion (s : State) : Host.Outcome State Fault Refusal :=
  .next (s.modLink fun x => { x with adminLine := true })

/-- DEV.CEILING at its block (R182). -/
def devCeilingBlock (ceiling : Nat) (s : State) : Result :=
  guarded s
    [(decide (2 < ceiling), .range),
      (!s.link.ceiling.passes (.ofNum ceiling) && !s.link.adminLine, .state)]
    (doneWith (s.modLink fun x => { x with ceiling := .ofNum ceiling }) (.ceiling (.ofNum ceiling)))

/-- DEV.CEILING (R182). -/
def execDevCeiling (ceiling : Nat) (s : State) : Host.Outcome State Fault Refusal :=
  conclude (devCeilingBlock ceiling s)

/-! ### DEV commands (R184 to R187) -/

/-- Whether a bit above 18 is set (R184, R186). -/
def badFlags (bits : BitVec 24) : Bool := decide (2 ^ 19 ≤ bits.toNat)

/-- DEV.MASK at its block (R184). -/
def devMaskBlock (bits : BitVec 24) (s : State) : Result :=
  guarded s [(badFlags bits, .range)] (done (s.modLink fun x => { x with mask := bits.setWidth 19 }))

/-- DEV.MASK (R184). -/
def execDevMask (bits : BitVec 24) (s : State) : Host.Outcome State Fault Refusal :=
  conclude (devMaskBlock bits s)

/-- What DEV.STATUS returns (R185). -/
def Link.statusReply (x : Link) : StatusReply where
  status := x.status
  mask := x.mask
  ceiling := x.ceiling
  adminLine := x.adminLine
  intakeCount := x.intake.length
  assemblyOccupied := x.assembly.isSome
  replyCount := x.replies.length

/-- DEV.STATUS at its block: the condition flags returned are cleared where the reply is queued (R185). -/
def devStatusBlock (mode : ReplyMode) (s : State) : Result :=
  match mode with
  | .always => doneWith (s.clearFlags conditionFlags) (.status s.link.statusReply)
  | .errors => doneWith s (.status s.link.statusReply)

/-- DEV.STATUS (R185). -/
def execDevStatus (mode : ReplyMode) (s : State) : Host.Outcome State Fault Refusal :=
  conclude (devStatusBlock mode s)

/-- DEV.ACK at its block: bits of condition flags are disregarded (R186). -/
def devAckBlock (bits : BitVec 24) (s : State) : Result :=
  guarded s [(badFlags bits, .range)] (done (s.clearFlags (bits.setWidth 19 &&& eventFlags)))

/-- DEV.ACK (R186). -/
def execDevAck (bits : BitVec 24) (s : State) : Host.Outcome State Fault Refusal :=
  conclude (devAckBlock bits s)

/-- The part's identity and capacities (R187). -/
def identity : IdentReply := ⟨0x6412, 1, 64, 8, 32, 24, 64, 3, 12⟩

/-- DEV.IDENT at its block (R187). -/
def devIdentBlock (s : State) : Result := doneWith s (.ident identity)

/-- DEV.IDENT (R187). -/
def execDevIdent (s : State) : Host.Outcome State Fault Refusal := conclude (devIdentBlock s)

/-! ### The commands a tag names -/

/-- The commands that telegrams name, one for each tag. -/
inductive Command
  | pageNew | pageSave | pageCopy | pageSet | pageZone | pageMarks | pageMarkclear | pageSign | pageLock
  | pageGroup | pageRetire | pageRead | lessonActivate | lessonOpen | lessonSet | lessonPlace | lessonMove
  | lessonRemove | lessonStep | lessonRead | lessonEvict | lessonCommit | lessonLoad | lessonAbandon
  | lessonErase | stillFreeze | stillDrop | stillRead | findSetup | findRead | findClear | matchSetup
  | matchTry | detailTable | detailLight | detailRead | viewSelect | viewFallback | viewZoom | viewPan
  | viewRoute | viewMode | viewTake | viewRead | portStart | portStop | portReset | portRead | cycleWrite
  | cycleLength | cycleClear | lensSetup | bridgeWrite | bridgeRead | bridgeResult | devCeiling | devMask
  | devStatus | devAck | devIdent | devReset
  deriving DecidableEq, Repr

/-- The tags of the PAGE, LESSON and STILL commands. -/
def tagsOfPages : List (Char × Char × Command) :=
  [('P', 'N', .pageNew), ('P', 'V', .pageSave), ('P', 'C', .pageCopy), ('P', 'T', .pageSet),
    ('P', 'Z', .pageZone), ('P', 'M', .pageMarks), ('P', 'X', .pageMarkclear), ('P', 'S', .pageSign),
    ('P', 'L', .pageLock), ('P', 'G', .pageGroup), ('P', 'R', .pageRetire), ('P', 'Q', .pageRead),
    ('L', 'A', .lessonActivate), ('L', 'O', .lessonOpen), ('L', 'T', .lessonSet),
    ('L', 'P', .lessonPlace), ('L', 'M', .lessonMove), ('L', 'R', .lessonRemove),
    ('L', 'S', .lessonStep), ('L', 'Q', .lessonRead), ('L', 'V', .lessonEvict),
    ('L', 'C', .lessonCommit), ('L', 'D', .lessonLoad), ('L', 'B', .lessonAbandon),
    ('L', 'E', .lessonErase), ('S', 'F', .stillFreeze), ('S', 'D', .stillDrop), ('S', 'Q', .stillRead)]

/-- The tags of the other commands. -/
def tagsOfOthers : List (Char × Char × Command) :=
  [('F', 'S', .findSetup), ('F', 'R', .findRead), ('F', 'C', .findClear), ('M', 'S', .matchSetup),
    ('M', 'T', .matchTry), ('D', 'T', .detailTable), ('D', 'L', .detailLight), ('D', 'R', .detailRead),
    ('V', 'S', .viewSelect), ('V', 'F', .viewFallback), ('V', 'Z', .viewZoom), ('V', 'P', .viewPan),
    ('V', 'R', .viewRoute), ('V', 'M', .viewMode), ('V', 'T', .viewTake), ('V', 'Q', .viewRead),
    ('O', 'S', .portStart), ('O', 'P', .portStop), ('O', 'R', .portReset), ('O', 'Q', .portRead),
    ('C', 'W', .cycleWrite), ('C', 'N', .cycleLength), ('C', 'C', .cycleClear), ('N', 'S', .lensSetup),
    ('B', 'W', .bridgeWrite), ('B', 'R', .bridgeRead), ('B', 'Q', .bridgeResult),
    ('D', 'C', .devCeiling), ('D', 'M', .devMask), ('D', 'S', .devStatus), ('D', 'A', .devAck),
    ('D', 'I', .devIdent), ('D', 'X', .devReset)]

/-- The command a tag names, if any (R180 step 1). -/
def commandOf (b0 b1 : Byte) : Option Command :=
  ((tagsOfPages ++ tagsOfOthers).find? fun e => e.1.toNat == b0.toNat && e.2.1.toNat == b1.toNat).map
    fun e => e.2.2

/-- A target kind of R176. -/
inductive TargetKind
  | none | page | lesson | group | allPages | views
  deriving DecidableEq, Repr

/-- The target kind of a byte, where it is not above 5 (R176). -/
def targetKind (b : Byte) : Option TargetKind :=
  match b.toNat with
  | 0 => some .none
  | 1 => some .page
  | 2 => some .lesson
  | 3 => some .group
  | 4 => some .allPages
  | 5 => some .views
  | _ => Option.none

/-- The target kinds a command accepts, as its section states. -/
def Command.targets : Command → List TargetKind
  | .pageNew | .pageSave | .lessonStep | .stillRead | .findSetup | .findRead | .findClear | .matchSetup
  | .detailTable | .detailLight | .lensSetup | .bridgeWrite | .bridgeRead | .bridgeResult | .devCeiling
  | .devMask | .devStatus | .devAck | .devIdent | .devReset => [.none]
  | .pageCopy | .pageSet | .pageMarks | .pageSign | .pageGroup | .pageRead | .lessonPlace
  | .stillFreeze => [.page]
  | .pageZone | .pageMarkclear | .pageLock | .pageRetire | .stillDrop => [.page, .group, .allPages]
  | .lessonActivate | .matchTry => [.none, .lesson]
  | .lessonOpen | .lessonSet | .lessonMove | .lessonRemove | .lessonRead | .lessonEvict | .lessonCommit
  | .lessonLoad | .lessonAbandon | .lessonErase => [.lesson]
  | .detailRead => [.none, .views]
  | .viewSelect | .viewFallback | .viewZoom | .viewPan | .viewRoute | .viewMode | .viewTake | .viewRead
  | .portStart | .portStop | .portReset | .portRead | .cycleWrite | .cycleLength | .cycleClear => [.views]

/-- The lengths a command's payload can have (log 5): one length; from `least` to `most` in steps; empty or a
form whose lengths the spec leaves open; or such a form alone, which is not empty. -/
inductive LengthRule
  | exactly (n : Nat)
  | counted (least most step : Nat)
  | optional
  | open
  deriving DecidableEq, Repr

/-- The payload length of a command, as its section states. DEDUCED, unsafe (log 5): one byte for a set of eight,
a lock and a level, three for the flags, and one for each item of DETAIL.TABLE, DETAIL.LIGHT and the bridge
commands, as R111 counts 60 bytes for s, n and 29 entries of two. PAGE.READ, of whose payload R28 says nothing, takes
an empty one like the other reading commands. -/
def Command.lengthRule : Command → LengthRule
  | .pageRetire | .pageRead | .lessonActivate | .lessonRead | .lessonCommit | .lessonLoad | .lessonAbandon
  | .lessonErase | .stillDrop | .stillRead | .findRead | .findClear | .detailRead | .viewTake | .viewRead
  | .portStop | .portReset | .portRead | .cycleClear | .bridgeResult | .devStatus | .devIdent
  | .devReset => .exactly 0
  | .pageGroup | .pageMarkclear | .pageLock | .devCeiling => .exactly 1
  | .devMask | .devAck | .bridgeRead => .exactly 3
  | .detailTable => .counted 4 60 2
  | .detailLight => .counted 3 18 1
  | .bridgeWrite => .counted 3 10 1
  | .pageNew | .pageSave | .pageCopy | .lessonOpen | .lessonEvict | .matchTry | .portStart => .optional
  | _ => .open

/-- Whether the telegram's payload has a length of some form of the command (R180 step 4). -/
def Command.lengthOk (c : Command) (t : Telegram) : Bool :=
  match c.lengthRule with
  | .exactly n => t.payload.length == n
  | .counted least most step =>
    decide (least ≤ t.payload.length) && decide (t.payload.length ≤ most)
      && (t.payload.length - least) % step == 0
  | .optional => t.payload.isEmpty || Config.lengthAllowed t.tag0 t.tag1 t.payload.length
  | .open => !t.payload.isEmpty && Config.lengthAllowed t.tag0 t.tag1 t.payload.length

/-! ### What a telegram carries (R176) -/

/-- The level number in the control byte (R176). -/
def Telegram.levelNum (t : Telegram) : Nat := (t.control &&& 3).toNat

/-- The level of a telegram that passed the level check. -/
def Telegram.level (t : Telegram) : Level := .ofNum t.levelNum

/-- The reply mode (R176). -/
def Telegram.mode (t : Telegram) : ReplyMode := if t.control.msb then .errors else .always

/-- The page handle of a PAGE target (R176). -/
def Telegram.page (t : Telegram) : PageRef := ⟨t.value0, t.value1⟩

/-- The number of a LESSON or GROUP target (R176). -/
def Telegram.number (t : Telegram) : Nat := t.value0.toNat

/-- A PAGE, GROUP or ALLPAGES target (R176). -/
def Telegram.members (t : Telegram) : Members :=
  match targetKind t.kind with
  | some .group => .group t.number
  | some .allPages => .allPages
  | _ => .page t.page

/-- The lesson of a LESSON target, or none (R176). -/
def Telegram.lesson? (t : Telegram) : Option Nat :=
  if targetKind t.kind = some .lesson then some t.number else none

/-- A form of the payload, or none where it is empty. -/
def Telegram.form? {α : Type} (t : Telegram) (f : List Byte → α) : Option α :=
  if t.payload.isEmpty then none else some (f t.payload)

/-- A set of 24 bits, three bytes most significant first (R184, R186; DEDUCED, unsafe, log 5). -/
def Telegram.bits24 (t : Telegram) : BitVec 24 :=
  BitVec.ofNat 24 (65536 * byteAt t.payload 0 + wordAt t.payload 1)

/-! ### The owning block's execution (R180) -/

/-- The Page Table's and the Still Store's commands. -/
def Command.runPage (c : Command) (t : Telegram) (s : State) : Option Result :=
  let f := Config.forms
  match c with
  | .pageNew => some (pageNewBlock t.level (t.form? f.placement) s)
  | .pageSave => some (pageSaveBlock t.level ((t.form? f.save).getD ⟨none, none, none⟩) s)
  | .pageCopy => some (pageCopyBlock t.level t.page (t.form? f.placement) s)
  | .pageSet => some (pageSetBlock t.level t.page (f.set t.payload) s)
  | .pageZone => some (pageZoneBlock t.level t.members (f.zone t.payload) s)
  | .pageMarks => some (pageMarksBlock t.level t.page (f.marks t.payload) s)
  | .pageMarkclear => some (pageMarkclearBlock t.level t.members (t.payload.getD 0 0) s)
  | .pageSign => some (pageSignBlock t.level t.page (f.sign t.payload) s)
  | .pageLock => some (pageLockBlock t.level t.members (byteAt t.payload 0) s)
  | .pageGroup => some (pageGroupBlock t.level t.page (t.payload.getD 0 0) s)
  | .pageRetire => some (pageRetireBlock t.level t.members s)
  | .pageRead => some (pageReadBlock t.page s)
  | .stillFreeze => some (stillFreezeBlock t.level t.page (f.freeze t.payload) s)
  | .stillDrop => some (stillDropBlock t.level t.members s)
  | .stillRead => some (stillReadBlock s)
  | _ => none

/-- The commands of the Lesson Table and the Lesson Flash Controller. -/
def Command.runLesson (c : Command) (t : Telegram) (s : State) : Option Result :=
  let f := Config.forms
  match c with
  | .lessonActivate => some (lessonActivateBlock t.lesson? s)
  | .lessonOpen => some (lessonOpenBlock t.level t.number ((t.form? f.lessonOpen).getD ⟨none, none⟩) s)
  | .lessonSet => some (lessonSetBlock t.level t.number (f.lessonSet t.payload) s)
  | .lessonPlace => some (lessonPlaceBlock t.level t.page (f.placement t.payload) s)
  | .lessonMove => some (lessonMoveBlock t.level t.number (f.move t.payload).1 (f.move t.payload).2 s)
  | .lessonRemove => some (lessonRemoveBlock t.level t.number (f.remove t.payload) s)
  | .lessonStep => some (lessonStepBlock (f.step t.payload) s)
  | .lessonRead => some (lessonReadBlock t.number s)
  | .lessonEvict => some (lessonEvictBlock t.level t.number ((t.form? f.evict).getD .keep) s)
  | .lessonCommit => some (lessonCommitBlock t.level t.number s)
  | .lessonLoad => some (lessonLoadBlock t.level t.number s)
  | .lessonAbandon => some (lessonAbandonBlock t.level t.number s)
  | .lessonErase => some (lessonEraseBlock t.level t.number s)
  | _ => none

/-- The commands of the Page Finder, the Page Matcher, the Detail Engine and the Lens Bus Bridge. -/
def Command.runPicture (c : Command) (t : Telegram) (s : State) : Option Result :=
  let f := Config.forms
  match c with
  | .findSetup => some (findSetupBlock t.level (f.find t.payload) s)
  | .findRead => some (findReadBlock s)
  | .findClear => some (findClearBlock s)
  | .matchSetup => some (matchSetupBlock t.level (f.matcher t.payload) s)
  | .matchTry => some (matchTryBlock t.lesson? (t.form? f.probe) s)
  | .detailTable => some (detailTableBlock t.level (f.table t.payload) s)
  | .detailLight => some (detailLightBlock t.level (f.light t.payload) s)
  | .detailRead =>
    some (if targetKind t.kind = some .views then detailReadBandSetBlock t.value0 s
      else detailReadTablesBlock s)
  | .lensSetup => some (lensSetupBlock t.level (f.lens t.payload) s)
  | .bridgeWrite => some (bridgeWriteBlock t.level (f.bridgeWrite t.payload) s)
  | .bridgeRead =>
    some (bridgeReadBlock t.level (if t.payload.length = 3 then some (f.bridgeRead t.payload) else none) s)
  | .bridgeResult => some (bridgeResultBlock s)
  | _ => none

/-- The commands of View Control and the output ports. -/
def Command.runView (c : Command) (t : Telegram) (s : State) : Option Result :=
  let f := Config.forms
  let vs := t.value0
  match c with
  | .viewSelect => some (viewSelectBlock vs (f.select t.payload) s)
  | .viewFallback => some (viewFallbackBlock t.level vs (f.fallback t.payload) s)
  | .viewZoom => some (viewZoomBlock vs (f.zoom t.payload) s)
  | .viewPan => some (viewPanBlock vs (f.pan t.payload).1 (f.pan t.payload).2 s)
  | .viewRoute => some (viewRouteBlock t.level vs (f.route t.payload) s)
  | .viewMode => some (viewModeBlock vs (f.mode t.payload) s)
  | .viewTake => some (viewTakeBlock vs s)
  | .viewRead => some (viewReadBlock vs s)
  | .portStart => some (portStartBlock t.level vs (t.form? f.rate) s)
  | .portStop => some (portStopBlock t.level vs s)
  | .portReset => some (portResetBlock t.level vs s)
  | .portRead => some (portReadBlock vs s)
  | .cycleWrite => some (cycleWriteBlock vs (f.cycle t.payload) s)
  | .cycleLength => some (cycleLengthBlock vs (f.cycleLength t.payload) s)
  | .cycleClear => some (cycleClearBlock vs s)
  | _ => none

/-- The Control Link's own commands but DEV.RESET. -/
def Command.runDevice (c : Command) (t : Telegram) (s : State) : Option Result :=
  match c with
  | .devCeiling => some (devCeilingBlock (byteAt t.payload 0) s)
  | .devMask => some (devMaskBlock t.bits24 s)
  | .devStatus => some (devStatusBlock t.mode s)
  | .devAck => some (devAckBlock t.bits24 s)
  | .devIdent => some (devIdentBlock s)
  | _ => none

/-- The owning block's execution of any command but DEV.RESET (R180). -/
def Command.runBlock (c : Command) (t : Telegram) (s : State) : Option Result :=
  (c.runPage t s).or <| (c.runLesson t s).or <| (c.runPicture t s).or <| (c.runView t s).or
    (c.runDevice t s)

/-- The owning block's execution: the state after it, and the answer, which an accepted DEV.RESET does not
give (R180, R188). -/
def Command.run (c : Command) (t : Telegram) (s : State) : State × Option Answer :=
  match c.runBlock t s with
  | some r => (r.1, some r.2)
  | none => if t.level.passes .owner then (s.softReset, none) else (s, some ⟨.locked, .empty⟩)

/-! ### Dispatch (R180, R181) -/

/-- The head telegram leaves the queue; one that waits in the assembly buffer takes the place that opens
(R179). -/
def Link.takeHead (x : Link) : Link :=
  { x with intake := x.intake.tail ++ x.assembly.toList, assembly := none,
           ready := x.ready || x.assembly.isSome }

/-- The checks at dispatch after the tag's (R180 steps 2 to 4). -/
def State.dispatchChecks (s : State) (c : Command) (t : Telegram) : List Check :=
  [(decide (s.link.ceiling.rank < t.levelNum), .level),
    ((match targetKind t.kind with | some k => !c.targets.contains k | none => true), .target),
    (!c.lengthOk t, .argument)]

/-- A telegram's execution, or its refusal at dispatch (R180). A refusal at dispatch carries no reply payload, for
a GROUP or ALLPAGES target too: R23's counts 0 and 0 are those of a refusal by the command's own checks (DESIGN
CHOICE, unsafe, log 35). -/
def State.runTelegram (s : State) (t : Telegram) : State × Option Answer :=
  match commandOf t.tag0 t.tag1 with
  | none => (s, some ⟨.unknown, .empty⟩)
  | some c =>
    match firstFailure (s.dispatchChecks c t) with
    | some code => (s, some ⟨code, .empty⟩)
    | none => c.run t s

/-- Whether a reply is queued (R181). -/
def queuesReply (m : ReplyMode) (c : ResultCode) : Bool := m == .always || (c != .ok && c != .accepted)

/-- The reply of an executed telegram joins the queue under its reply mode; REPLY_READY is set when it joins
an empty queue (R181). -/
def State.queueReply (s : State) (t : Telegram) (a : Answer) : State :=
  if queuesReply t.mode a.code then
    let w := s.modLink fun x => { x with replies := x.replies ++ [⟨t.tag0, t.tag1, a⟩] }
    if s.link.replies.isEmpty then w.setFlag .replyReady else w
  else s

/-- A dispatched telegram's reply, and its answer kept (R181; log 1). -/
def State.conclusion (t : Telegram) (r : State × Option Answer) : State :=
  match r.2 with
  | some a => (r.1.queueReply t a).withAnswer a
  | none => r.1

/-- DISPATCH of the head telegram, where there is one and the reply queue has room (R180). -/
def State.dispatch (s : State) : State :=
  match s.link.intake with
  | [] => s
  | t :: _ =>
    if s.link.replies.length < 4 then State.conclusion t ((s.modLink Link.takeHead).runTelegram t) else s

/-- DISPATCH (R180). -/
def execDispatch (s : State) : Host.Outcome State Fault Refusal := .next s.dispatch

end Sys2Proof.Machine
end

