-- ==== Sys2Proof/Machine/Dispatch.lean ====
section
/-! DEFINITION. One arm for each command: its meaning. -/

namespace Sys2Proof.Machine

/-- The effect of a command on everything but the queue of commands that wait. -/
def exec (i : Instr) (s : State) : Host.Outcome State Fault Refusal :=
  match i with
  | .powerOnReset => Sys2Proof.Machine.execPowerOnReset s
  | .telegramReceived bits => Sys2Proof.Machine.execTelegramReceived bits s
  | .fetch clocked => Sys2Proof.Machine.execFetch clocked s
  | .dispatch => Sys2Proof.Machine.execDispatch s
  | .takeEdge => Sys2Proof.Machine.execTakeEdge s
  | .nextEdge => Sys2Proof.Machine.execNextEdge s
  | .prevEdge => Sys2Proof.Machine.execPrevEdge s
  | .adminNegation => Sys2Proof.Machine.execAdminNegation s
  | .adminAssertion => Sys2Proof.Machine.execAdminAssertion s
  | .pageNew lvl place => Sys2Proof.Machine.execPageNew lvl place s
  | .pageSave lvl form => Sys2Proof.Machine.execPageSave lvl form s
  | .pageCopy lvl src place => Sys2Proof.Machine.execPageCopy lvl src place s
  | .pageSet lvl page form => Sys2Proof.Machine.execPageSet lvl page form s
  | .pageZone lvl target form => Sys2Proof.Machine.execPageZone lvl target form s
  | .pageMarks lvl page form => Sys2Proof.Machine.execPageMarks lvl page form s
  | .pageMarkclear lvl target positions => Sys2Proof.Machine.execPageMarkclear lvl target positions s
  | .pageSign lvl page form => Sys2Proof.Machine.execPageSign lvl page form s
  | .pageLock lvl target lock => Sys2Proof.Machine.execPageLock lvl target lock s
  | .pageGroup lvl page groups => Sys2Proof.Machine.execPageGroup lvl page groups s
  | .pageRetire lvl target => Sys2Proof.Machine.execPageRetire lvl target s
  | .pageRead page => Sys2Proof.Machine.execPageRead page s
  | .lessonActivate lesson => Sys2Proof.Machine.execLessonActivate lesson s
  | .lessonOpen lvl lesson form => Sys2Proof.Machine.execLessonOpen lvl lesson form s
  | .lessonSet lvl lesson form => Sys2Proof.Machine.execLessonSet lvl lesson form s
  | .lessonPlace lvl page place => Sys2Proof.Machine.execLessonPlace lvl page place s
  | .lessonMove lvl lesson a b => Sys2Proof.Machine.execLessonMove lvl lesson a b s
  | .lessonRemove lvl lesson p => Sys2Proof.Machine.execLessonRemove lvl lesson p s
  | .lessonStep form => Sys2Proof.Machine.execLessonStep form s
  | .lessonRead lesson => Sys2Proof.Machine.execLessonRead lesson s
  | .lessonEvict lvl lesson form => Sys2Proof.Machine.execLessonEvict lvl lesson form s
  | .lessonCommit lvl lesson => Sys2Proof.Machine.execLessonCommit lvl lesson s
  | .lessonLoad lvl lesson => Sys2Proof.Machine.execLessonLoad lvl lesson s
  | .lessonAbandon lvl lesson => Sys2Proof.Machine.execLessonAbandon lvl lesson s
  | .lessonErase lvl lesson => Sys2Proof.Machine.execLessonErase lvl lesson s
  | .stillFreeze lvl page source => Sys2Proof.Machine.execStillFreeze lvl page source s
  | .stillDrop lvl target => Sys2Proof.Machine.execStillDrop lvl target s
  | .stillRead => Sys2Proof.Machine.execStillRead s
  | .findSetup lvl form => Sys2Proof.Machine.execFindSetup lvl form s
  | .findRead => Sys2Proof.Machine.execFindRead s
  | .findClear => Sys2Proof.Machine.execFindClear s
  | .matchSetup lvl form => Sys2Proof.Machine.execMatchSetup lvl form s
  | .matchTry lesson probe => Sys2Proof.Machine.execMatchTry lesson probe s
  | .detailTable lvl form => Sys2Proof.Machine.execDetailTable lvl form s
  | .detailLight lvl form => Sys2Proof.Machine.execDetailLight lvl form s
  | .detailReadBandSet views => Sys2Proof.Machine.execDetailReadBandSet views s
  | .detailReadTables => Sys2Proof.Machine.execDetailReadTables s
  | .viewSelect views form => Sys2Proof.Machine.execViewSelect views form s
  | .viewFallback lvl views form => Sys2Proof.Machine.execViewFallback lvl views form s
  | .viewZoom views form => Sys2Proof.Machine.execViewZoom views form s
  | .viewPan views x y => Sys2Proof.Machine.execViewPan views x y s
  | .viewRoute lvl views route => Sys2Proof.Machine.execViewRoute lvl views route s
  | .viewMode views form => Sys2Proof.Machine.execViewMode views form s
  | .viewTake views => Sys2Proof.Machine.execViewTake views s
  | .viewRead views => Sys2Proof.Machine.execViewRead views s
  | .portStart lvl views rate => Sys2Proof.Machine.execPortStart lvl views rate s
  | .portStop lvl views => Sys2Proof.Machine.execPortStop lvl views s
  | .portReset lvl views => Sys2Proof.Machine.execPortReset lvl views s
  | .portRead views => Sys2Proof.Machine.execPortRead views s
  | .cycleWrite views form => Sys2Proof.Machine.execCycleWrite views form s
  | .cycleLength views length => Sys2Proof.Machine.execCycleLength views length s
  | .cycleClear views => Sys2Proof.Machine.execCycleClear views s
  | .lensSetup lvl form => Sys2Proof.Machine.execLensSetup lvl form s
  | .bridgeWrite lvl form => Sys2Proof.Machine.execBridgeWrite lvl form s
  | .bridgeRead lvl form => Sys2Proof.Machine.execBridgeRead lvl form s
  | .bridgeResult => Sys2Proof.Machine.execBridgeResult s
  | .devCeiling ceiling => Sys2Proof.Machine.execDevCeiling ceiling s
  | .devMask bits => Sys2Proof.Machine.execDevMask bits s
  | .devStatus mode => Sys2Proof.Machine.execDevStatus mode s
  | .devAck bits => Sys2Proof.Machine.execDevAck bits s
  | .devIdent => Sys2Proof.Machine.execDevIdent s
  | .devReset lvl => Sys2Proof.Machine.execDevReset lvl s
  | .intakeFrameStart => Sys2Proof.Machine.execIntakeFrameStart s
  | .intakeFrameEnd frame => Sys2Proof.Machine.execIntakeFrameEnd frame s
  | .intakeTimeout => Sys2Proof.Machine.execIntakeTimeout s
  | .lensTransactionEnd acked data => Sys2Proof.Machine.execLensTransactionEnd acked data s
  | .clockHoldTimeout => Sys2Proof.Machine.execClockHoldTimeout s
  | .portFramePeriod port ready => Sys2Proof.Machine.execPortFramePeriod port ready s
  | .portFrameEnd port => Sys2Proof.Machine.execPortFrameEnd port s
  | .commitPhaseEnd => Sys2Proof.Machine.execCommitPhaseEnd s
  | .loadPhaseEnd => Sys2Proof.Machine.execLoadPhaseEnd s
  | .clearEnd => Sys2Proof.Machine.execClearEnd s
  | .flashStepFailure clearAlone => Sys2Proof.Machine.execFlashStepFailure clearAlone s
  | .flashStepTimeout => Sys2Proof.Machine.execFlashStepTimeout s

end Sys2Proof.Machine
end

