-- ==== Sys2Proof/Safety.lean ====
section
/-! DEFINITION. What the spec says always holds of the part, in the terms claims use: the invariants that every
step keeps. -/

namespace Sys2Proof.Machine

/-- Record 0 as R6 and R3 say it always is: OPEN with generation 0, in no lesson, without still or pending
fill, lock PRESENTER, not dirty. -/
def Record.isLive (r : Record) : Prop :=
  r.st = .opened ∧ r.gen = 0 ∧ r.lesson = none ∧ r.still = none ∧ r.fill = none
    ∧ r.setup.lock = .presenter ∧ r.dirty = false

/-- Record 0 is as R6 says, and neither a page order nor a slot names it (R32: orders hold records 1..63;
R54: record 0 takes no fill). -/
def State.liveRecordKept (s : State) : Prop :=
  (s.page 0).isLive ∧ (∀ l : Fin 8, (0 : Fin 64) ∉ (s.lesson l).order)
    ∧ ∀ (k : Fin 24) (h : Handle), (s.slot k).record = some h → h.idx ≠ 0

/-- The Control Link's bounds: at most 4 telegrams in the intake queue, the assembly buffer occupied only
behind a full queue and exactly while the ready line is low, at most 4 replies (R179, R181). -/
def Link.bounded (x : Link) : Prop :=
  x.intake.length ≤ 4 ∧ (x.assembly.isSome → x.intake.length = 4) ∧ x.ready = x.assembly.isNone
    ∧ x.replies.length ≤ 4

/-- A zoom the part accepts or applies lies in 256..2048 (00_scope.md "Zoom units"). -/
def zoomOk (z : Nat) : Prop := 256 ≤ z ∧ z ≤ 2048

/-- A view's zooms lie in 256..2048: its targets, its current zoom, and the applied zoom of its latest frame
(R115, R123, R124). -/
def ViewCtx.zoomsOk (c : ViewCtx) : Prop :=
  zoomOk c.staged.target ∧ zoomOk c.current.target ∧ zoomOk c.zoom
    ∧ ∀ f : FrameValues, c.frame = some f → zoomOk f.zoom

/-- Every zoom the part keeps lies in 256..2048: those of the views and of the zoom presets (R4, R115, R124). -/
def State.zoomsOk (s : State) : Prop :=
  (∀ v : ViewId, (s.view v).zoomsOk)
    ∧ ∀ (i : Fin 64) (p : Preset), (s.page i).setup.preset = some p → zoomOk p.zoom

/-- The bytes of every lesson flash area are in their canonical form, and lie below the area's picture region (R155). -/
def State.flashCanonical (s : State) : Prop :=
  ∀ l : Fin 8, Memory.wf s.areas[l].cells = true ∧ ∀ c ∈ s.areas[l].cells, c.1 < pictureOffset

/-- The lens bus carries what its state says: on an idle bus nothing is carried and nothing waits; otherwise a
transaction is carried, that of the request its state names, and no bridge request is on the bus but there
(R168, R169, R171, R172). -/
def Lens.consistent (x : Lens) : Prop :=
  match x.bus with
  | .idle => x.auto = none ∧ x.bridge = none ∧ x.carried = none
  | .autoOnBus =>
    (∃ (r : AutoReq) (c : Carried), x.auto = some r ∧ x.carried = some c ∧ c.tx = r.transaction)
      ∧ ∀ r : BridgeReq, x.bridge = some r → r.onBus = false
  | .bridgeOnBus =>
    ∃ (r : BridgeReq) (c : Carried),
      x.bridge = some r ∧ r.onBus = true ∧ x.carried = some c ∧ c.tx = r.transaction
  | .draining => x.carried.isSome ∧ ∀ r : BridgeReq, x.bridge = some r → r.onBus = false

/-! ### References, orders, holds and stills -/

/-- How many view-context fields name record i: staged selections, current selections and fallbacks (R24). -/
def State.selNaming (s : State) (i : Fin 64) : Nat :=
  (ViewId.all.map fun v =>
    [(s.view v).staged.sel.page?, (s.view v).current.sel.page?, (s.view v).fallback.page?].countP
      (· == some i)).sum

/-- How many show-cycle entries name record i, over all 12 positions of the three cycles (R24). -/
def State.cycNaming (s : State) (i : Fin 64) : Nat :=
  (ViewId.all.map fun v => (s.port v).cycle.entries.toList.countP fun e => e.sel.page? == some i).sum

/-- A handle that a selection, a fallback or an entry names: that of an OPEN record of 1..63, with its present
generation (R117, R26: a record with references is not retired). -/
def State.names (s : State) (h : Handle) : Prop :=
  h.idx ≠ 0 ∧ (s.page h.idx).st = .opened ∧ (s.page h.idx).gen = h.gen

/-- The refs of every record count the fields that name it, and every field names an OPEN record (R24, R117). -/
def State.refsCounted (s : State) : Prop :=
  (∀ i : Fin 64, (s.page i).selRefs = s.selNaming i ∧ (s.page i).cycRefs = s.cycNaming i)
    ∧ ∀ (v : ViewId) (h : Handle),
      ((s.view v).staged.sel = .page h ∨ (s.view v).current.sel = .page h ∨ (s.view v).fallback = .page h
        ∨ ∃ q : Fin 12, (s.port v).cycle.entries[q].sel = .page h) → s.names h

/-- The orders and the lesson fields agree: an order names each of its records once, they are OPEN records of
1..63, and they are those whose lesson field names the lesson; a cursor lies within its order; an ABSENT or
LOADING lesson has an empty order; record 0 is OPEN (R6, R29, R32, R33). -/
def State.ordersAgree (s : State) : Prop :=
  (s.page 0).st = .opened
    ∧ ∀ l : Fin 8, (s.lesson l).order.Nodup
      ∧ (∀ i : Fin 64, i ∈ (s.lesson l).order ↔ (s.page i).lesson = some l)
      ∧ (∀ i ∈ (s.lesson l).order, i ≠ 0 ∧ (s.page i).st = .opened)
      ∧ (∀ c : Nat, (s.lesson l).cursor = some c → c < (s.lesson l).order.length)
      ∧ ((s.lesson l).st = .absent ∨ (s.lesson l).st = .loading → (s.lesson l).order = [])

/-- The operation in flight agrees with the lessons and records: a lesson is COMMITTING or LOADING exactly while
its commit or load is in flight, a record is LOADING only while a load is, and the active lesson is OPEN or
COMMITTING (R1, R29, R34, R157). -/
def State.operationAgrees (s : State) : Prop :=
  (∀ l : Fin 8, ((s.lesson l).st = .committing ↔ ∃ p : CommitPhase, s.op = some (.commit l p))
      ∧ ((s.lesson l).st = .loading ↔ ∃ p : LoadPhase, s.op = some (.load l p)))
    ∧ (∀ i : Fin 64, (s.page i).st = .loading → ∃ (l : Fin 8) (p : LoadPhase), s.op = some (.load l p))
    ∧ ∀ l : Fin 8, s.active = some l → (s.lesson l).st = .opened ∨ (s.lesson l).st = .committing

/-- What R24, R32 to R34 and R117 say of the tables together. -/
def State.tablesAgree (s : State) : Prop := s.refsCounted ∧ s.ordersAgree ∧ s.operationAgrees

/-- How many ports have a frame in flight whose source is record i (R25). -/
def State.framesOfRecord (s : State) (i : Fin 64) : Nat :=
  ViewId.all.countP fun v =>
    ((s.port v).frame.bind fun f => f.source.record.map fun h => h.idx) == some i

/-- How many ports have a frame in flight that shows slot k (R51). -/
def State.framesOfSlot (s : State) (k : Fin 24) : Nat :=
  ViewId.all.countP fun v => ((s.port v).frame.bind fun f => f.source.slot) == some k

/-- Slot k agrees with the records (R50): FILLING, the fill pending of the record it names, without holds, from a
load exactly where that record is LOADING; READY, the still of the record it names; RELEASED, named by none and
held; FREE, with no blocks, holds or record. -/
def State.slotAgrees (s : State) (k : Fin 24) : Prop :=
  match (s.slot k).st with
  | .free => (s.slot k).blocks = 0 ∧ (s.slot k).holds = 0 ∧ (s.slot k).record = none
  | .filling =>
    (s.slot k).holds = 0 ∧ ∃ h : Handle, (s.slot k).record = some h ∧ (s.page h.idx).fill = some k
      ∧ h.gen = (s.page h.idx).gen ∧ (s.slot k).source.isSome
      ∧ ((s.slot k).source = some .load ↔ (s.page h.idx).st = .loading)
  | .ready =>
    ∃ h : Handle, (s.slot k).record = some h ∧ (s.page h.idx).still = some k ∧ h.gen = (s.page h.idx).gen
  | .released => (s.slot k).record = none ∧ 0 < (s.slot k).holds

/-- Record i agrees with the slots (R50, R1): its still is a READY slot and its fill pending a FILLING one that
names it; FREE, it has neither, and no holds; LOADING, no still and no holds; RETIRING, no fill pending, and
holds. -/
def State.recordAgrees (s : State) (i : Fin 64) : Prop :=
  (∀ k : Fin 24, (s.page i).still = some k →
      (s.slot k).st = .ready ∧ (s.slot k).record.map (fun h => h.idx) = some i)
    ∧ (∀ k : Fin 24, (s.page i).fill = some k →
      (s.slot k).st = .filling ∧ (s.slot k).record.map (fun h => h.idx) = some i)
    ∧ match (s.page i).st with
      | .free => (s.page i).still = none ∧ (s.page i).fill = none ∧ (s.page i).holds = 0
      | .loading => (s.page i).still = none ∧ (s.page i).holds = 0
      | .opened => True
      | .retiring => (s.page i).fill = none ∧ 0 < (s.page i).holds

/-- The holds count the frames in flight, and slots and records agree, over tables that agree (R25, R50, R51). -/
def State.storeAgrees (s : State) : Prop :=
  s.tablesAgree
    ∧ (∀ i : Fin 64, (s.page i).holds = s.framesOfRecord i ∧ s.recordAgrees i)
    ∧ ∀ k : Fin 24, (s.slot k).holds = s.framesOfSlot k ∧ s.slotAgrees k

/-! ### Bits on the control link -/

/-- The bits of bytes as they are shifted, most significant bit first (11_control_link_and_attention.md). -/
def bitsOf (l : List Byte) : List Bool :=
  l.flatMap fun c =>
    [c.getLsbD 7, c.getLsbD 6, c.getLsbD 5, c.getLsbD 4, c.getLsbD 3, c.getLsbD 2, c.getLsbD 1, c.getLsbD 0]

/-- Saved fields that fit a page image (R4, R155): the label is 1..24 printable characters, the corners are
sensor points, the marks and the zoom preset are in range. -/
def Setup.storable (x : Setup) : Prop :=
  (∀ l, x.label = some l → badLabel l = false) ∧ (∀ c, x.corners = some c → c.bad = false)
    ∧ (∀ p, x.preset = some p → p.bad = false)
    ∧ ∀ (i : Fin 8) (m : Mark), x.marks[i] = some m →
        m.x0 < m.x1 ∧ m.y0 < m.y1 ∧ m.x1 ≤ 4095 ∧ m.y1 ≤ 4095

end Sys2Proof.Machine
end

