-- ==== Sys2Proof/Certificates/Slice0/Obligations.lean ====
section
/-! DEFINITION. The statements for the provers: what the spec's rules say of each command, of the part after a
reset, and of every step. A next state is written out whole, so that each equation is also the command's frame. -/

namespace Sys2Proof.Machine

/-! ### The words the statements use -/

/-- The outcome of a telegram command: the state after it, with the owning block's answer kept (R180; the field
is the model's own, log 1). -/
def answers (t : State) (c : ResultCode) (b : ReplyBody) : Host.Outcome State Fault Refusal :=
  .next { t with link := { t.link with answer := some ⟨c, b⟩ } }

/-- The handle of record i as a telegram carries it: the index with the record's present generation (R3). -/
def State.refTo (s : State) (i : Fin 64) : PageRef := ⟨BitVec.ofNat 8 i.val, (s.page i).gen⟩

/-- R8 steps 4 to 6 pass for record i named by its present handle: OPEN, its lock passed, its lesson not
COMMITTING. -/
def State.editable (s : State) (lvl : Level) (i : Fin 64) : Prop :=
  (s.page i).st = .opened ∧ (s.page i).setup.lock.rank ≤ lvl.rank
    ∧ ∀ l : Fin 8, (s.page i).lesson = some l → (s.lesson l).st ≠ .committing

/-- The lessons after a write of a saved field of record i: its lesson is dirty (R9); record 0 has none (R6). -/
def State.lessonsEdited (s : State) (i : Fin 64) : Vector Lesson 8 :=
  if i = 0 then s.lessons
  else
    match (s.page i).lesson with
    | some l => s.lessons.set l { s.lesson l with dirty := true }
    | none => s.lessons

/-- The state after a write of saved fields of record i: the record and its lesson are dirty (R9), but for
record 0 (R6). -/
def State.edited (s : State) (i : Fin 64) (f : Setup → Setup) : State :=
  { s with
    records := s.records.set i
      { s.page i with setup := f (s.page i).setup, dirty := (s.page i).dirty || decide (i ≠ 0) }
    lessons := s.lessonsEdited i }

/-- Record i is the FREE record with the lowest index in 1..63 (R2). -/
def State.allocates (s : State) (i : Fin 64) : Prop :=
  i ≠ 0 ∧ (s.page i).st = .free ∧ ∀ j : Fin 64, j ≠ 0 → j < i → (s.page j).st ≠ .free

/-- Slot k is the FREE slot with the lowest number (R57). -/
def State.takesSlot (s : State) (k : Fin 24) : Prop :=
  (s.slot k).st = .free ∧ ∀ j : Fin 24, j < k → (s.slot j).st ≠ .free

/-- A placement as a telegram carries it: lesson l has the number l + 1. -/
def placementOf : Option (Fin 8 × Nat) → Option Placement
  | some (l, p) => some ⟨l.val + 1, p⟩
  | none => none

/-- A placement that passes the checks of R11, `carried` being the lock of the new record. -/
def State.placeable (s : State) (lvl carried : Level) : Option (Fin 8 × Nat) → Prop
  | some (l, p) =>
    (s.lesson l).st = .opened ∧ (s.lesson l).lock.rank ≤ lvl.rank ∧ carried.rank ≤ lvl.rank
      ∧ (s.lesson l).order.length < 32 ∧ p ≤ (s.lesson l).order.length
  | none => True

/-- The cursor after an insertion at p (R33). -/
def pushedCursor (c : Option Nat) (p : Nat) : Option Nat := c.map fun c => if p ≤ c then c + 1 else c

/-- The state in which record i has become r, placed where a placement says (R11, R32, R33). -/
def State.allocated (s : State) (i : Fin 64) (r : Record) : Option (Fin 8 × Nat) → State
  | some (l, p) =>
    { s with
      records := s.records.set i { r with lesson := some l, dirty := true }
      lessons := s.lessons.set l
        { s.lesson l with
          order := (s.lesson l).order.insertIdx p i
          cursor := pushedCursor (s.lesson l).cursor p
          dirty := true } }
  | none => { s with records := s.records.set i r }

/-- What PAGE.SAVE takes from record 0, with what it sets (R12). -/
def State.savedFrom (s : State) (preset : Option Preset) : Setup :=
  { Setup.blank with
    corners := (s.page 0).setup.corners
    rotation := (s.page 0).setup.rotation
    mirror := (s.page 0).setup.mirror
    pageMode := (s.page 0).setup.pageMode
    overrides := (s.page 0).setup.overrides
    marks := (s.page 0).setup.marks
    signature := (s.page 0).setup.signature
    matchEnable := true
    preset := preset }

/-- The preset PAGE.SAVE takes from a view: its current zoom, and the pan centre of its current half (R12). -/
def State.presetNow (s : State) (v : ViewId) : Preset :=
  ⟨(s.view v).zoom, (s.view v).current.panX, (s.view v).current.panY⟩

/-- The source's precondition of a freeze (R55, R56). -/
def State.canFreeze (s : State) : FreezeSource → Prop
  | .page => s.pfd.st = .settled
  | .proj => s.ports.proj.st = .running

/-- A slot that has become FILLING for a freeze of record i (R57). That its kind is written here and its light level
stands until the fill completes is the model's choice (DESIGN CHOICE, log 34). -/
def Slot.frozen (x : Slot) (i : Fin 64) (gen : Byte) (blocks : Nat) : FreezeSource → Slot
  | .page =>
    { x with st := .filling, blocks := blocks, kind := .page, holds := 0, record := some ⟨i, gen⟩,
             source := some .page, phase := some .queued, capture := none, picture := none }
  | .proj =>
    { x with st := .filling, blocks := blocks, kind := .composed, holds := 0, record := some ⟨i, gen⟩,
             source := some .proj, phase := some .queued, capture := none, picture := none }

/-- A slot that has become FREE: kind and light level are kept (R49). -/
def Slot.freed (x : Slot) : Slot :=
  { x with st := .free, blocks := 0, record := none, source := none, phase := none, capture := none,
           picture := none }

/-- A slot released from its record: FREE with holds 0, RELEASED otherwise (R52). -/
def Slot.released (x : Slot) : Slot :=
  if x.holds = 0 then x.freed else { x with st := .released, record := none }

/-- The blocks of the slot named, if any. -/
def State.blocksOf (s : State) : Option (Fin 24) → Nat
  | some k => (s.slot k).blocks
  | none => 0

/-- The blocks a release of the slot named returns, if any (R52). -/
def State.blocksReleased (s : State) : Option (Fin 24) → Nat
  | some k => if (s.slot k).holds = 0 then (s.slot k).blocks else 0
  | none => 0

/-- The attention status with FREEZE_ABORTED set where a fill is aborted (R60). -/
def State.statusAborting (s : State) (fill : Option (Fin 24)) : FlagSet :=
  if fill.isSome then s.link.status ||| Flag.only .freezeAborted else s.link.status

/-- The members of a group or of all pages: OPEN records of 1..63 with the property, ascending (R22). -/
def State.members (s : State) (p : Record → Bool) : List (Fin 64) :=
  (List.finRange 64).filter fun i => decide (i ≠ 0) && decide ((s.page i).st = .opened) && p (s.page i)

/-- A group command's treatment of its members, each judged by the state as it then is: the state, the number
that took the command, and the refusals in order (R22). -/
def treated (judge : State → Fin 64 → Option ResultCode) (act : State → Fin 64 → State) :
    List (Fin 64) → State → State × Nat × List (Fin 64 × ResultCode)
  | [], s => (s, 0, [])
  | i :: rest, s =>
    match judge s i with
    | some c =>
      ((treated judge act rest s).1, (treated judge act rest s).2.1, (i, c) :: (treated judge act rest s).2.2)
    | none =>
      ((treated judge act rest (act s i)).1, (treated judge act rest (act s i)).2.1 + 1,
        (treated judge act rest (act s i)).2.2)

/-- The result code of a group reply (R23). -/
def groupCode (taken : Nat) : List (Fin 64 × ResultCode) → ResultCode
  | [] => .ok
  | (_, c) :: _ => if taken = 0 then c else .partialDone

/-- The outcome of a group command (R22, R23). -/
def groupAnswers (judge : State → Fin 64 → Option ResultCode) (act : State → Fin 64 → State)
    (members : List (Fin 64)) (s : State) : Host.Outcome State Fault Refusal :=
  answers (treated judge act members s).1
    (groupCode (treated judge act members s).2.1 (treated judge act members s).2.2)
    (.group (treated judge act members s).2.1 (treated judge act members s).2.2.length
      (treated judge act members s).2.2.head?)

/-- R8 steps 5 and 6 for a member, with the level the lock rule asks for. -/
def State.refusal (s : State) (lvl need : Level) (i : Fin 64) : Option ResultCode :=
  if lvl.rank < need.rank then some .locked
  else
    match (s.page i).lesson with
    | some l => if (s.lesson l).st = .committing then some .busy else none
    | none => none

/-- The checks of a retire for a member (R26 checks 4 to 7). -/
def State.retireRefusal (s : State) (lvl : Level) (i : Fin 64) : Option ResultCode :=
  match s.refusal lvl (s.page i).setup.lock i with
  | some c => some c
  | none =>
    if ∃ l : Fin 8, (s.page i).lesson = some l ∧ lvl.rank < (s.lesson l).lock.rank then some .locked
    else if 0 < (s.page i).selRefs ∨ 0 < (s.page i).cycRefs then some .referenced
    else none

/-- A text of 1..24 printable characters (R4). -/
def isLabel (t : List Byte) : Prop :=
  1 ≤ t.length ∧ t.length ≤ 24 ∧ ∀ c ∈ t, 0x20 ≤ c.toNat ∧ c.toNat ≤ 0x7E

/-- A sensor point (00_scope.md "Sensor coordinates"). -/
def onSensor (p : Point) : Prop := p.x ≤ 4095 ∧ p.y ≤ 3071

/-- A mark in range (R17). -/
def markInRange (m : Mark) : Prop := m.x0 < m.x1 ∧ m.y0 < m.y1 ∧ m.x1 ≤ 4095 ∧ m.y1 ≤ 4095

end Sys2Proof.Machine

open Sys2Proof Sys2Proof.Machine

/-! ### The machine -/

/-- A step with a command at the front of the queue is that command on the state with the queue's rest. -/
def Obligations.StepTakesFront : Prop :=
  ∀ (c : Instr) (s : State) (rest : List Instr),
    step { s with pending := c :: rest } = exec c { s with pending := rest }

/-- The model's choice (log 2): with an empty queue the part idles. -/
def Sys2Proof.Says.EmptyQueueIdles : Prop := ∀ s : State, s.pending = [] → step s = .next s

/-- Every command answers a next state and leaves the queue (log 1): no command of the spec stops the part. -/
def Sys2Proof.Says.EveryCommandCompletes : Prop :=
  ∀ (c : Instr) (s : State), ∃ t : State, exec c s = .next t ∧ t.pending = s.pending

/-! ### Page records (R1 to R28) -/

/-- PAGE.NEW on the lowest FREE record, with or without a placement (R2, R5, R10, R11). -/
def Sys2Proof.Says.PageNewAllocates : Prop :=
  ∀ (s : State) (lvl : Level) (i : Fin 64) (place : Option (Fin 8 × Nat)),
    s.allocates i → s.placeable lvl .presenter place →
    exec (.pageNew lvl (placementOf place)) s =
      answers (s.allocated i { Record.blank ((s.page i).gen + 1) with st := .opened, dirty := true } place)
        .ok (.handle ⟨i, (s.page i).gen + 1⟩)

/-- PAGE.SAVE without a freeze (R12). The view's number is that of R115. -/
def Sys2Proof.Says.PageSaveKeepsLivePage : Prop :=
  ∀ (s : State) (lvl : Level) (i : Fin 64) (v : Option ViewId) (place : Option (Fin 8 × Nat)),
    s.allocates i → s.placeable lvl .presenter place →
    exec (.pageSave lvl ⟨v.map ViewId.num, placementOf place, none⟩) s =
      answers
        (s.allocated i
          { Record.blank ((s.page i).gen + 1) with
            st := .opened
            setup := s.savedFrom (v.map s.presetNow)
            dirty := true } place)
        .ok (.handle ⟨i, (s.page i).gen + 1⟩)

/-- PAGE.SAVE with a freeze: record, fill and placement are made as one (R12, R13, R57). -/
def Sys2Proof.Says.PageSaveFreezes : Prop :=
  ∀ (s : State) (lvl : Level) (i : Fin 64) (k : Fin 24) (v : Option ViewId)
    (place : Option (Fin 8 × Nat)) (src : FreezeSource),
    s.allocates i → s.placeable lvl .presenter place → s.canFreeze src → s.takesSlot k →
    s.freezeBlocks src ≤ s.freeBlocks →
    exec (.pageSave lvl ⟨v.map ViewId.num, placementOf place, some (.val src)⟩) s =
      answers
        { s.allocated i
            { Record.blank ((s.page i).gen + 1) with
              st := .opened
              setup := s.savedFrom (v.map s.presetNow)
              fill := some k
              dirty := true } place with
          slots := s.slots.set k
            ((s.slot k).frozen i ((s.page i).gen + 1) (s.freezeBlocks src) src)
          freeBlocks := s.freeBlocks - s.freezeBlocks src }
        .accepted (.handle ⟨i, (s.page i).gen + 1⟩)

/-- The checks of a placement in lesson n at position p, `carried` being the lock of the new record: the code of
the first that fails (R11). -/
def Sys2Proof.Machine.State.placementRefusal (s : State) (lvl carried : Level) (n p : Nat) : Option ResultCode :=
  if n < 1 ∨ 8 < n then some .range
  else if (s.lesson (lessonIdx n)).st = .committing then some .busy
  else if (s.lesson (lessonIdx n)).st ≠ .opened then some .state
  else if lvl.rank < (s.lesson (lessonIdx n)).lock.rank ∨ lvl.rank < carried.rank then some .locked
  else if 32 ≤ (s.lesson (lessonIdx n)).order.length then some .full
  else if (s.lesson (lessonIdx n)).order.length < p then some .range
  else none

/-- The refusals of PAGE.SAVE, in order: a view number or freeze source outside its values RANGE before anything else; then
a freeze whose source condition fails STATE, without a FREE slot NO_STILL, without enough blocks NO_STILL with STILL_FULL
set; then the placement; then, without a FREE record, FULL (R11, R12, R13). -/
def Sys2Proof.Says.PageSaveRefusals : Prop :=
  ∀ (s : State) (lvl : Level) (v : Option Nat) (place : Option Placement),
    (∀ freeze : Option (Code FreezeSource), ((∃ n, v = some n ∧ (n < 1 ∨ 3 < n)) ∨ freeze = some .other) →
        exec (.pageSave lvl ⟨v, place, freeze⟩) s = answers s .range .empty)
      ∧ ((∀ n, v = some n → 1 ≤ n ∧ n ≤ 3) → ∀ src : FreezeSource,
        (¬ s.canFreeze src →
            exec (.pageSave lvl ⟨v, place, some (.val src)⟩) s = answers s .state .empty)
          ∧ (s.canFreeze src → (∀ k : Fin 24, (s.slot k).st ≠ .free) →
            exec (.pageSave lvl ⟨v, place, some (.val src)⟩) s = answers s .noStill .empty)
          ∧ (s.canFreeze src → (∃ k : Fin 24, (s.slot k).st = .free) → s.freeBlocks < s.freezeBlocks src →
            exec (.pageSave lvl ⟨v, place, some (.val src)⟩) s =
              answers { s with link := { s.link with status := s.link.status ||| Flag.only .stillFull } }
                .noStill .empty)
          ∧ (s.canFreeze src → (∃ k : Fin 24, (s.slot k).st = .free) → s.freezeBlocks src ≤ s.freeBlocks →
            (∀ (n p : Nat) (c : ResultCode), place = some ⟨n, p⟩ →
                s.placementRefusal lvl .presenter n p = some c →
                exec (.pageSave lvl ⟨v, place, some (.val src)⟩) s = answers s c .empty)
              ∧ ((∀ n p : Nat, place = some ⟨n, p⟩ → s.placementRefusal lvl .presenter n p = none) →
                (∀ i : Fin 64, i ≠ 0 → (s.page i).st ≠ .free) →
                exec (.pageSave lvl ⟨v, place, some (.val src)⟩) s = answers s .full .empty)))

/-- PAGE.COPY: every saved field of the source but its still (R14). -/
def Sys2Proof.Says.PageCopyDuplicates : Prop :=
  ∀ (s : State) (lvl : Level) (i j : Fin 64) (place : Option (Fin 8 × Nat)),
    s.allocates i → (s.page j).st = .opened → s.placeable lvl (s.page j).setup.lock place →
    exec (.pageCopy lvl (s.refTo j) (placementOf place)) s =
      answers
        (s.allocated i
          { Record.blank ((s.page i).gen + 1) with
            st := .opened
            setup := (s.page j).setup
            dirty := true } place)
        .ok (.handle ⟨i, (s.page i).gen + 1⟩)

/-- Without a FREE record the allocating commands are refused FULL and allocate nothing (R2), a placement having
passed its checks (R11). -/
def Sys2Proof.Says.AllocationRefusedWhenFull : Prop :=
  ∀ (s : State) (lvl : Level) (place : Option (Fin 8 × Nat)), (∀ i : Fin 64, i ≠ 0 → (s.page i).st ≠ .free) →
    (s.placeable lvl .presenter place →
        exec (.pageNew lvl (placementOf place)) s = answers s .full .empty
          ∧ exec (.pageSave lvl ⟨none, placementOf place, none⟩) s = answers s .full .empty)
      ∧ ∀ j : Fin 64, (s.page j).st = .opened → s.placeable lvl (s.page j).setup.lock place →
          exec (.pageCopy lvl (s.refTo j) (placementOf place)) s = answers s .full .empty

/-- A placement whose check fails refuses PAGE.NEW, PAGE.SAVE and PAGE.COPY with that check's code, and nothing is
allocated (R11). -/
def Sys2Proof.Says.PlacementRefused : Prop :=
  ∀ (s : State) (lvl : Level) (n p : Nat) (c : ResultCode),
    (s.placementRefusal lvl .presenter n p = some c →
        exec (.pageNew lvl (some ⟨n, p⟩)) s = answers s c .empty
          ∧ exec (.pageSave lvl ⟨none, some ⟨n, p⟩, none⟩) s = answers s c .empty)
      ∧ ∀ j : Fin 64, (s.page j).st = .opened → s.placementRefusal lvl (s.page j).setup.lock n p = some c →
          exec (.pageCopy lvl (s.refTo j) (some ⟨n, p⟩)) s = answers s c .empty

/-- PAGE.SET writes the named items and keeps the others (R15, R9). -/
def Sys2Proof.Says.PageSetWritesNamedItems : Prop :=
  ∀ (s : State) (lvl : Level) (i : Fin 64) (label : Option (Edit (List Byte)))
    (corners : Option (Edit Corners)) (rotation : Option Rotation) (mirror : Option Bool)
    (preset : Option (Edit Preset)),
    s.editable lvl i →
    (label.isSome ∨ corners.isSome ∨ rotation.isSome ∨ mirror.isSome ∨ preset.isSome) →
    (∀ t, label = some (.put t) → isLabel t) →
    (∀ c, corners = some (.put c) → onSensor c.tl ∧ onSensor c.tr ∧ onSensor c.br ∧ onSensor c.bl) →
    (∀ p, preset = some (.put p) → 256 ≤ p.zoom ∧ p.zoom ≤ 2048 ∧ p.x ≤ 4095 ∧ p.y ≤ 4095) →
    exec (.pageSet lvl (s.refTo i) ⟨label, corners, rotation.map .val, mirror.map .val, preset⟩) s =
      answers
        (s.edited i fun x =>
          { x with
            label := editOr label x.label
            corners := editOr corners x.corners
            rotation := rotation.getD x.rotation
            mirror := mirror.getD x.mirror
            preset := editOr preset x.preset })
        .ok .empty

/-- PAGE.SET refuses a payload that names no item with ARGUMENT, and with RANGE a value out of range, whatever record it
names (R8 step 1, R15). -/
def Sys2Proof.Says.PageSetRangesFirst : Prop :=
  ∀ (s : State) (lvl : Level) (h : PageRef),
    exec (.pageSet lvl h ⟨none, none, none, none, none⟩) s = answers s .argument .empty
      ∧ ∀ f : SetForm,
        ((∃ t, f.label = some (.put t) ∧ ∃ c ∈ t, c.toNat < 0x20 ∨ 0x7E < c.toNat)
            ∨ (∃ c : Corners, f.corners = some (.put c) ∧
                ∃ p ∈ [c.tl, c.tr, c.br, c.bl], 4095 < p.x ∨ 3071 < p.y)
            ∨ f.rotation = some .other
            ∨ (∃ p : Preset, f.preset = some (.put p) ∧
                (p.zoom < 256 ∨ 2048 < p.zoom ∨ 4095 < p.x ∨ 4095 < p.y))) →
        exec (.pageSet lvl h f) s = answers s .range .empty

/-- PAGE.ZONE, PAGE.MARKCLEAR and PAGE.LOCK on a PAGE target (R16, R18, R20). -/
def Sys2Proof.Says.PageTargetEdits : Prop :=
  ∀ (s : State) (lvl : Level) (i : Fin 64), s.editable lvl i →
    (∀ (mode : Option PageMode) (bands : BitVec 12) (value : Option PageMode), bands ≠ 0 →
      exec (.pageZone lvl (.page (s.refTo i)) ⟨mode.map .val, some ⟨bands, .val value⟩⟩) s =
        answers
          (s.edited i fun x =>
            { x with
              pageMode := mode.getD x.pageMode
              overrides := Vector.ofFn fun b => if bands.getLsbD b.val then value else x.overrides[b] })
          .ok .empty)
      ∧ (∀ mode : PageMode,
        exec (.pageZone lvl (.page (s.refTo i)) ⟨some (.val mode), none⟩) s =
          answers (s.edited i fun x => { x with pageMode := mode }) .ok .empty)
      ∧ (∀ positions : Byte, positions ≠ 0 →
        exec (.pageMarkclear lvl (.page (s.refTo i)) positions) s =
          answers
            (s.edited i fun x =>
              { x with
                marks := Vector.ofFn fun p => if positions.getLsbD p.val then none else x.marks[p] })
            .ok .empty)
      ∧ ∀ lock : Level, i ≠ 0 → lock.rank ≤ lvl.rank →
        exec (.pageLock lvl (.page (s.refTo i)) lock.rank) s =
          answers (s.edited i fun x => { x with lock := lock }) .ok .empty

/-- PAGE.MARKS writes mark i of the payload to position (s + i) mod 8 and keeps the others (R17). -/
def Sys2Proof.Says.PageMarksWrap : Prop :=
  ∀ (s : State) (lvl : Level) (i : Fin 64) (start : Fin 8) (marks : List Mark),
    s.editable lvl i → 1 ≤ marks.length → marks.length ≤ 8 → (∀ m ∈ marks, markInRange m) →
    exec (.pageMarks lvl (s.refTo i) ⟨start.val, marks.length,
        marks.map fun m => ⟨.val m.kind, m.x0, m.y0, m.x1, m.y1⟩⟩) s =
      answers
        (s.edited i fun x =>
          { x with
            marks := Vector.ofFn fun p =>
              if (p.val + 8 - start.val) % 8 < marks.length then marks[(p.val + 8 - start.val) % 8]?
              else x.marks[p] })
        .ok .empty

/-- PAGE.SIGN in its three forms (R19). -/
def Sys2Proof.Says.PageSignWrites : Prop :=
  ∀ (s : State) (lvl : Level) (i : Fin 64) (mask : BitVec 16) (enable : Bool), i ≠ 0 → s.editable lvl i →
    (∀ sig : Signature,
      exec (.pageSign lvl (s.refTo i)
          ⟨.val .given, sig.toList.map BitVec.toNat, mask, .val enable⟩) s =
        answers (s.edited i fun x =>
          { x with signature := some sig, sigMask := mask, matchEnable := enable }) .ok .empty)
      ∧ (∀ sig : Signature, s.pfd.liveSig = some sig →
        exec (.pageSign lvl (s.refTo i) ⟨.val .live, [], mask, .val enable⟩) s =
          answers (s.edited i fun x =>
            { x with signature := some sig, sigMask := mask, matchEnable := enable }) .ok .empty)
      ∧ (s.pfd.liveSig = none →
        exec (.pageSign lvl (s.refTo i) ⟨.val .live, [], mask, .val enable⟩) s = answers s .state .empty)
      ∧ exec (.pageSign lvl (s.refTo i) ⟨.val .none, [], mask, .val enable⟩) s =
          answers (s.edited i fun x =>
            { x with signature := none, sigMask := mask, matchEnable := enable }) .ok .empty

/-- What a reply carries to a refusal before any record is treated: on a GROUP or ALLPAGES target counts 0 and 0
(R22, R23). -/
def Sys2Proof.Machine.refusalBody : Members → ReplyBody
  | .page _ => .empty
  | _ => .group 0 0 none

/-- The payloads that PAGE.ZONE, PAGE.MARKCLEAR and PAGE.LOCK refuse, whatever their target: neither part, or an override
write without a band, is ARGUMENT, then a mode or override value outside its values RANGE (in this order: log 14); a
position set without a bit RANGE; a lock outside 0..2 RANGE (R8 step 1, R16, R18, R20, R22). -/
def Sys2Proof.Says.TargetedPayloadsRefused : Prop :=
  ∀ (s : State) (lvl : Level) (target : Members),
    exec (.pageZone lvl target ⟨none, none⟩) s = answers s .argument (refusalBody target)
      ∧ (∀ (mode : Option (Code PageMode)) (value : Code (Option PageMode)),
        exec (.pageZone lvl target ⟨mode, some ⟨0, value⟩⟩) s = answers s .argument (refusalBody target))
      ∧ exec (.pageZone lvl target ⟨some .other, none⟩) s = answers s .range (refusalBody target)
      ∧ (∀ (mode : Option (Code PageMode)) (bands : BitVec 12) (value : Code (Option PageMode)), bands ≠ 0 →
        (mode = some .other ∨ value = .other) →
        exec (.pageZone lvl target ⟨mode, some ⟨bands, value⟩⟩) s = answers s .range (refusalBody target))
      ∧ exec (.pageMarkclear lvl target 0) s = answers s .range (refusalBody target)
      ∧ ∀ n : Nat, 2 < n → exec (.pageLock lvl target n) s = answers s .range (refusalBody target)

/-- The payloads that PAGE.MARKS and PAGE.SIGN refuse, whatever record they name: a length that does not match the count
ARGUMENT, then a start, a count or a mark out of range RANGE (in this order: log 14); a signature form or nibble out of
range RANGE, then a form with the wrong nibbles ARGUMENT (R17, R19). -/
def Sys2Proof.Says.MarkAndSignPayloadsRefused : Prop :=
  ∀ (s : State) (lvl : Level) (h : PageRef),
    (∀ f : MarksForm,
        (f.marks.length ≠ f.count → exec (.pageMarks lvl h f) s = answers s .argument .empty)
          ∧ (f.marks.length = f.count →
            (7 < f.start ∨ f.count < 1 ∨ 8 < f.count
              ∨ ∃ m ∈ f.marks, m.kind = .other ∨ ¬ markInRange ⟨.cover, m.x0, m.y0, m.x1, m.y1⟩) →
            exec (.pageMarks lvl h f) s = answers s .range .empty))
      ∧ ∀ (kind : Code SignKind) (nibbles : List Nat) (mask : BitVec 16) (enable : Bool),
        ((kind = .other ∨ ∃ n ∈ nibbles, 15 < n) →
            exec (.pageSign lvl h ⟨kind, nibbles, mask, .val enable⟩) s = answers s .range .empty)
          ∧ ((∀ n ∈ nibbles, n ≤ 15) →
            ((kind = .val .given ∧ nibbles.length ≠ 16)
              ∨ ((kind = .val .live ∨ kind = .val .none) ∧ nibbles ≠ [])) →
            exec (.pageSign lvl h ⟨kind, nibbles, mask, .val enable⟩) s = answers s .argument .empty)

/-- PAGE.GROUP replaces the group set; record 0 is refused TARGET (R6, R21). -/
def Sys2Proof.Says.PageGroupReplacesSet : Prop :=
  ∀ (s : State) (lvl : Level) (i : Fin 64) (groups : Byte),
    (i ≠ 0 → s.editable lvl i →
      exec (.pageGroup lvl (s.refTo i) groups) s =
        answers (s.edited i fun x => { x with groups := groups }) .ok .empty)
      ∧ (i = 0 → exec (.pageGroup lvl (s.refTo i) groups) s = answers s .target .empty)

/-- The handle check: an index above 63 is RANGE, then record 0 is TARGET for the commands of R6, then another
generation or a record that is not OPEN is STALE (R3, R6, R8 steps 2 to 4). -/
def Sys2Proof.Says.HandlesAreChecked : Prop :=
  ∀ (s : State) (lvl : Level) (h : PageRef),
    (63 < h.idx.toNat →
      ∀ c ∈ [Instr.pageRead h, .pageCopy lvl h none, .pageRetire lvl (.page h), .pageGroup lvl h 0,
          .pageLock lvl (.page h) 0, .stillDrop lvl (.page h)], exec c s = answers s .range .empty)
      ∧ (∀ i : Fin 64, h.idx.toNat = i.val → (h.gen ≠ (s.page i).gen ∨ (s.page i).st ≠ .opened) →
        (∀ c ∈ [Instr.pageRead h, .pageCopy lvl h none], exec c s = answers s .stale .empty)
          ∧ ∀ c ∈ [Instr.pageRetire lvl (.page h), .pageGroup lvl h 0, .pageLock lvl (.page h) 0,
              .stillDrop lvl (.page h)],
            exec c s = answers s (if i = 0 then .target else .stale) .empty)

/-- A lock above the telegram level refuses LOCKED, then a COMMITTING lesson refuses BUSY (R8 steps 5 and 6). -/
def Sys2Proof.Says.LockThenCommitRefuse : Prop :=
  ∀ (s : State) (lvl : Level) (i : Fin 64) (l : Fin 8), i ≠ 0 → (s.page i).st = .opened →
    ∀ c ∈ [Instr.pageGroup lvl (s.refTo i) 0, .pageRetire lvl (.page (s.refTo i)),
        .stillDrop lvl (.page (s.refTo i)), .pageMarkclear lvl (.page (s.refTo i)) 1],
      (lvl.rank < (s.page i).setup.lock.rank → exec c s = answers s .locked .empty)
        ∧ ((s.page i).setup.lock.rank ≤ lvl.rank → (s.page i).lesson = some l →
          (s.lesson l).st = .committing → exec c s = answers s .busy .empty)

/-- R8's checks 2 to 6 of the record a handle names, the code of the first that fails: `live` says that record 0 is
accepted, and `need` is the level that the lock rule asks for. -/
def Sys2Proof.Machine.State.editRefusal (s : State) (lvl need : Level) (live : Bool) (h : PageRef) :
    Option ResultCode :=
  let r := s.page (recIdx h.idx.toNat)
  if 63 < h.idx.toNat then some .range
  else if live = false ∧ h.idx = 0 then some .target
  else if h.gen ≠ r.gen ∨ r.st ≠ .opened then some .stale
  else if lvl.rank < need.rank then some .locked
  else if ∃ l : Fin 8, r.lesson = some l ∧ (s.lesson l).st = .committing then some .busy
  else none

/-- Every command that edits one record refuses it with the first of R8's checks that fails, its payload being good, and
changes nothing (R3, R6, R8, R20, R26, R54, R62). -/
def Sys2Proof.Says.RecordEditsRefused : Prop :=
  ∀ (s : State) (lvl : Level) (h : PageRef) (c : ResultCode),
    let lock := (s.page (recIdx h.idx.toNat)).setup.lock
    (s.editRefusal lvl lock true h = some c →
        (∀ (label : Option (Edit (List Byte))) (corners : Option (Edit Corners)) (rotation : Option Rotation)
          (mirror : Option Bool) (preset : Option (Edit Preset)),
          (label.isSome ∨ corners.isSome ∨ rotation.isSome ∨ mirror.isSome ∨ preset.isSome) →
          (∀ t, label = some (.put t) → isLabel t) →
          (∀ x, corners = some (.put x) → onSensor x.tl ∧ onSensor x.tr ∧ onSensor x.br ∧ onSensor x.bl) →
          (∀ p, preset = some (.put p) → 256 ≤ p.zoom ∧ p.zoom ≤ 2048 ∧ p.x ≤ 4095 ∧ p.y ≤ 4095) →
          exec (.pageSet lvl h ⟨label, corners, rotation.map .val, mirror.map .val, preset⟩) s =
            answers s c .empty)
          ∧ (∀ mode : PageMode, exec (.pageZone lvl (.page h) ⟨some (.val mode), none⟩) s = answers s c .empty)
          ∧ (∀ (mode : Option PageMode) (bands : BitVec 12) (value : Option PageMode), bands ≠ 0 →
            exec (.pageZone lvl (.page h) ⟨mode.map .val, some ⟨bands, .val value⟩⟩) s = answers s c .empty)
          ∧ (∀ (start : Fin 8) (marks : List Mark), 1 ≤ marks.length → marks.length ≤ 8 →
            (∀ m ∈ marks, markInRange m) →
            exec (.pageMarks lvl h ⟨start.val, marks.length,
              marks.map fun m => ⟨.val m.kind, m.x0, m.y0, m.x1, m.y1⟩⟩) s = answers s c .empty)
          ∧ ∀ positions : Byte, positions ≠ 0 →
            exec (.pageMarkclear lvl (.page h) positions) s = answers s c .empty)
      ∧ (s.editRefusal lvl lock false h = some c →
        (∀ (mask : BitVec 16) (enable : Bool),
          (∀ sig : Signature,
              exec (.pageSign lvl h ⟨.val .given, sig.toList.map BitVec.toNat, mask, .val enable⟩) s =
                answers s c .empty)
            ∧ ∀ kind : SignKind, kind ≠ .given →
              exec (.pageSign lvl h ⟨.val kind, [], mask, .val enable⟩) s = answers s c .empty)
          ∧ (∀ groups : Byte, exec (.pageGroup lvl h groups) s = answers s c .empty)
          ∧ exec (.pageRetire lvl (.page h)) s = answers s c .empty
          ∧ exec (.stillDrop lvl (.page h)) s = answers s c .empty
          ∧ ∀ src : FreezeSource, exec (.stillFreeze lvl h (.val src)) s = answers s c .empty)
      ∧ (∀ new : Level, s.editRefusal lvl (lock.max new) false h = some c →
        exec (.pageLock lvl (.page h) new.rank) s = answers s c .empty)
      ∧ exec (.stillFreeze lvl h .other) s = answers s .range .empty

/-- A target of several records, and which OPEN records of 1..63 it names: those with g among their groups, or every one
(R22). -/
def Sys2Proof.Machine.picks (target : Members) (p : Record → Bool) : Prop :=
  (target = .allPages ∧ p = fun _ => true)
    ∨ ∃ g : Fin 8, target = .group (g.val + 1) ∧ p = fun r => r.setup.groups.getLsbD g.val

/-- The five commands on a GROUP or ALLPAGES target treat its members in ascending order and answer with a group reply
(R22, R23). -/
def Sys2Proof.Says.GroupCommandsTreatMembers : Prop :=
  ∀ (s : State) (lvl : Level) (target : Members) (p : Record → Bool), picks target p →
    (∀ lock : Level, exec (.pageLock lvl target lock.rank) s =
      groupAnswers (fun t i => t.refusal lvl ((t.page i).setup.lock.max lock) i)
        (fun t i => t.edited i fun x => { x with lock := lock }) (s.members p) s)
      ∧ (∀ mode : PageMode, exec (.pageZone lvl target ⟨some (.val mode), none⟩) s =
        groupAnswers (fun t i => t.refusal lvl (t.page i).setup.lock i)
          (fun t i => t.edited i fun x => { x with pageMode := mode }) (s.members p) s)
      ∧ (∀ (mode : Option PageMode) (bands : BitVec 12) (value : Option PageMode), bands ≠ 0 →
        exec (.pageZone lvl target ⟨mode.map .val, some ⟨bands, .val value⟩⟩) s =
          groupAnswers (fun t i => t.refusal lvl (t.page i).setup.lock i)
            (fun t i => t.edited i fun x =>
              { x with
                pageMode := mode.getD x.pageMode
                overrides := Vector.ofFn fun b => if bands.getLsbD b.val then value else x.overrides[b] })
            (s.members p) s)
      ∧ (∀ positions : Byte, positions ≠ 0 →
        exec (.pageMarkclear lvl target positions) s =
          groupAnswers (fun t i => t.refusal lvl (t.page i).setup.lock i)
            (fun t i => t.edited i fun x =>
              { x with
                marks := Vector.ofFn fun q => if positions.getLsbD q.val then none else x.marks[q] })
            (s.members p) s)
      ∧ exec (.pageRetire lvl target) s =
          groupAnswers (fun t i => t.retireRefusal lvl i) State.retire (s.members p) s
      ∧ exec (.stillDrop lvl target) s =
          groupAnswers (fun t i => t.refusal lvl (t.page i).setup.lock i) State.dropStill (s.members p) s

/-- What a retire and a drop do to a member, `State.retire` and `State.dropStill`, is what they do to a record named singly
by its current handle, and they refuse it there as they refuse a member (R22). What that is in full is
`PageRetireTakesRecordOut` and `StillDropReleases`. -/
def Sys2Proof.Says.MembersAsNamedSingly : Prop :=
  ∀ (s : State) (lvl : Level) (i : Fin 64), i ≠ 0 → (s.page i).st = .opened →
    exec (.pageRetire lvl (.page (s.refTo i))) s =
        (match s.retireRefusal lvl i with
        | some c => answers s c .empty
        | none => answers (s.retire i) .ok .empty)
      ∧ exec (.stillDrop lvl (.page (s.refTo i))) s =
        match s.refusal lvl (s.page i).setup.lock i with
        | some c => answers s c .empty
        | none => answers (s.dropStill i) .ok .empty

/-- An empty member set answers OK with counts 0, and a group number outside 1..8 RANGE with counts 0, whatever good
payload comes with it (R22, R23; after the payload: log 14). -/
def Sys2Proof.Says.EmptyAndWrongGroups : Prop :=
  ∀ (s : State) (lvl : Level),
    (∀ (target : Members) (p : Record → Bool), picks target p →
        (∀ i : Fin 64, i ≠ 0 → (s.page i).st = .opened → p (s.page i) = false) →
        exec (.pageRetire lvl target) s = answers s .ok (.group 0 0 none)
          ∧ exec (.stillDrop lvl target) s = answers s .ok (.group 0 0 none))
      ∧ ∀ g : Nat, (g < 1 ∨ 8 < g) →
        ∀ c ∈ [Instr.pageRetire lvl (.group g), .stillDrop lvl (.group g), .pageLock lvl (.group g) 0,
            .pageMarkclear lvl (.group g) 1, .pageZone lvl (.group g) ⟨some (.val .plain), none⟩],
          exec c s = answers s .range (.group 0 0 none)

/-- PAGE.RETIRE of a record that passes every check: out of its lesson, its fill aborted, its generation
advanced; FREE with its still released where holds are 0, RETIRING with its still kept otherwise (R26). The
premises on the lesson and the slots are R32's and R50's agreement. -/
def Sys2Proof.Says.PageRetireTakesRecordOut : Prop :=
  ∀ (s : State) (lvl : Level) (i : Fin 64), i ≠ 0 → s.editable lvl i →
    (∀ l : Fin 8, (s.page i).lesson = some l →
      (s.lesson l).lock.rank ≤ lvl.rank ∧ i ∈ (s.lesson l).order) →
    (s.page i).selRefs = 0 → (s.page i).cycRefs = 0 →
    (∀ k : Fin 24, (s.page i).still = some k → (s.page i).fill ≠ some k) →
    exec (.pageRetire lvl (.page (s.refTo i))) s =
      answers
        { s with
          records := s.records.set i
            (if (s.page i).holds = 0 then Record.blank ((s.page i).gen + 1)
            else
              { s.page i with
                st := .retiring
                gen := (s.page i).gen + 1
                lesson := none
                fill := none
                dirty := (s.page i).dirty || (s.page i).lesson.isSome })
          lessons :=
            match (s.page i).lesson with
            | some l => s.lessons.set l
                { s.lesson l with
                  order := (s.lesson l).order.eraseIdx ((s.lesson l).order.idxOf i)
                  cursor := cursorRemove (s.lesson l).cursor ((s.lesson l).order.idxOf i)
                    ((s.lesson l).order.length - 1)
                  dirty := true }
            | none => s.lessons
          slots := Vector.ofFn fun k =>
            if (s.page i).fill = some k then (s.slot k).freed
            else if (s.page i).still = some k then
              if (s.page i).holds = 0 then (s.slot k).released
              else { s.slot k with record := some ⟨i, (s.page i).gen + 1⟩ }
            else s.slot k
          freeBlocks := s.freeBlocks + s.blocksOf (s.page i).fill
            + (if (s.page i).holds = 0 then s.blocksReleased (s.page i).still else 0)
          link := { s.link with status := s.statusAborting (s.page i).fill } }
        .ok .empty

/-- A lesson lock above the telegram level refuses a retire LOCKED, and references refuse it REFERENCED (R26
checks 6 and 7). -/
def Sys2Proof.Says.PageRetireRefusals : Prop :=
  ∀ (s : State) (lvl : Level) (i : Fin 64), i ≠ 0 → s.editable lvl i →
    (∀ l : Fin 8, (s.page i).lesson = some l → lvl.rank < (s.lesson l).lock.rank →
      exec (.pageRetire lvl (.page (s.refTo i))) s = answers s .locked .empty)
      ∧ ((∀ l : Fin 8, (s.page i).lesson = some l → (s.lesson l).lock.rank ≤ lvl.rank) →
        (0 < (s.page i).selRefs ∨ 0 < (s.page i).cycRefs) →
        exec (.pageRetire lvl (.page (s.refTo i))) s = answers s .referenced .empty)

/-- PAGE.READ returns the whole of one record and changes nothing (R28). -/
def Sys2Proof.Says.PageReadReturnsRecord : Prop :=
  ∀ (s : State) (i : Fin 64), (s.page i).st = .opened →
    exec (.pageRead (s.refTo i)) s =
      answers s .ok
        (.page
          { handle := ⟨i, (s.page i).gen⟩
            lesson := (s.page i).lesson
            position :=
              match (s.page i).lesson with
              | some l => (s.lesson l).order.idxOf? i
              | none => none
            setup := (s.page i).setup
            still := (s.page i).still.map fun k =>
              ⟨k, (s.slot k).kind, (s.slot k).blocks, (s.slot k).light⟩
            fill := (s.page i).fill
            dirty := (s.page i).dirty
            selRefs := (s.page i).selRefs
            cycRefs := (s.page i).cycRefs
            holds := (s.page i).holds })

/-! ### Lessons and page order (R29 to R47) -/

/-- LESSON.ACTIVATE sets the active lesson, or refuses (R34). -/
def Sys2Proof.Says.LessonActivateSetsActive : Prop :=
  ∀ s : State,
    exec (.lessonActivate none) s = answers { s with active := none } .ok .empty
      ∧ (∀ l : Fin 8, ((s.lesson l).st = .opened ∨ (s.lesson l).st = .committing) →
        exec (.lessonActivate (some (l.val + 1))) s = answers { s with active := some l } .ok .empty)
      ∧ (∀ l : Fin 8, ((s.lesson l).st = .absent ∨ (s.lesson l).st = .loading) →
        exec (.lessonActivate (some (l.val + 1))) s = answers s .state .empty)
      ∧ ∀ n : Nat, (n = 0 ∨ 8 < n) → exec (.lessonActivate (some n)) s = answers s .range .empty

/-- LESSON.OPEN makes an ABSENT lesson without a stored copy OPEN (R35). -/
def Sys2Proof.Says.LessonOpenMakesEmptyLesson : Prop :=
  ∀ (s : State) (lvl : Level) (l : Fin 8) (label : Option (List Byte)) (lock : Option Level),
    (s.lesson l).st = .absent → (s.lesson l).stored = false → (∀ t, label = some t → isLabel t) →
    (lock.getD .presenter).rank ≤ lvl.rank →
    exec (.lessonOpen lvl (l.val + 1) ⟨label, lock.map Level.rank⟩) s =
      answers
        { s with
          lessons := s.lessons.set l
            { st := .opened
              label := label
              lock := lock.getD .presenter
              stored := false
              lost := (s.lesson l).lost
              dirty := label.isSome || decide (lock.getD .presenter ≠ .presenter)
              order := []
              cursor := none
              progress := none } }
        .ok .empty

/-- The refusals of LESSON.OPEN, in order: a label character or lock out of range, then a lesson number outside 1..8,
RANGE; a LOADING or COMMITTING lesson BUSY; an OPEN or a stored one STATE; a lock above the level LOCKED (R35). -/
def Sys2Proof.Says.LessonOpenRefusals : Prop :=
  ∀ (s : State) (lvl : Level) (label : Option (List Byte)),
    (∀ (n : Nat) (lock : Option Nat),
        ((∃ t, label = some t ∧ ∃ c ∈ t, c.toNat < 0x20 ∨ 0x7E < c.toNat) ∨ ∃ k, lock = some k ∧ 2 < k) →
        exec (.lessonOpen lvl n ⟨label, lock⟩) s = answers s .range .empty)
      ∧ ∀ lock : Option Level, (∀ t, label = some t → isLabel t) →
        (∀ n : Nat, (n < 1 ∨ 8 < n) →
            exec (.lessonOpen lvl n ⟨label, lock.map Level.rank⟩) s = answers s .range .empty)
          ∧ ∀ l : Fin 8,
            (((s.lesson l).st = .loading ∨ (s.lesson l).st = .committing) →
                exec (.lessonOpen lvl (l.val + 1) ⟨label, lock.map Level.rank⟩) s = answers s .busy .empty)
              ∧ (((s.lesson l).st = .opened ∨ ((s.lesson l).st = .absent ∧ (s.lesson l).stored = true)) →
                exec (.lessonOpen lvl (l.val + 1) ⟨label, lock.map Level.rank⟩) s = answers s .state .empty)
              ∧ ((s.lesson l).st = .absent → (s.lesson l).stored = false →
                lvl.rank < (lock.getD .presenter).rank →
                exec (.lessonOpen lvl (l.val + 1) ⟨label, lock.map Level.rank⟩) s = answers s .locked .empty)

/-- LESSON.SET writes the named items and makes the lesson dirty (R36). -/
def Sys2Proof.Says.LessonSetWritesItems : Prop :=
  ∀ (s : State) (lvl : Level) (l : Fin 8) (label : Option (Edit (List Byte))) (lock : Option Level),
    (label.isSome ∨ lock.isSome) → (∀ t, label = some (.put t) → isLabel t) →
    (s.lesson l).st = .opened → (s.lesson l).lock.rank ≤ lvl.rank →
    (∀ k, lock = some k → k.rank ≤ lvl.rank) →
    exec (.lessonSet lvl (l.val + 1) ⟨label, lock.map Level.rank⟩) s =
      answers
        { s with
          lessons := s.lessons.set l
            { s.lesson l with
              label := editOr label (s.lesson l).label
              lock := lock.getD (s.lesson l).lock
              dirty := true } }
        .ok .empty

/-- The refusals of LESSON.SET, in order: no item is ARGUMENT; a label or lock out of range, then a lesson number
outside 1..8, RANGE; a COMMITTING lesson BUSY; another that is not OPEN STATE; a level below the present lock or the
new one LOCKED (R36). -/
def Sys2Proof.Says.LessonSetRefusals : Prop :=
  ∀ (s : State) (lvl : Level) (n : Nat),
    exec (.lessonSet lvl n ⟨none, none⟩) s = answers s .argument .empty
      ∧ (∀ (label : Option (Edit (List Byte))) (lock : Option Nat),
        ((∃ t, label = some (.put t) ∧ ∃ c ∈ t, c.toNat < 0x20 ∨ 0x7E < c.toNat)
            ∨ ∃ k, lock = some k ∧ 2 < k) →
          exec (.lessonSet lvl n ⟨label, lock⟩) s = answers s .range .empty)
      ∧ ∀ (label : Option (Edit (List Byte))) (lock : Option Level), (label.isSome ∨ lock.isSome) →
        (∀ t, label = some (.put t) → isLabel t) →
        ((n < 1 ∨ 8 < n) →
            exec (.lessonSet lvl n ⟨label, lock.map Level.rank⟩) s = answers s .range .empty)
          ∧ ∀ l : Fin 8,
            ((s.lesson l).st = .committing →
                exec (.lessonSet lvl (l.val + 1) ⟨label, lock.map Level.rank⟩) s = answers s .busy .empty)
              ∧ (((s.lesson l).st = .absent ∨ (s.lesson l).st = .loading) →
                exec (.lessonSet lvl (l.val + 1) ⟨label, lock.map Level.rank⟩) s = answers s .state .empty)
              ∧ ((s.lesson l).st = .opened →
                (lvl.rank < (s.lesson l).lock.rank ∨ ∃ k, lock = some k ∧ lvl.rank < k.rank) →
                exec (.lessonSet lvl (l.val + 1) ⟨label, lock.map Level.rank⟩) s = answers s .locked .empty)

/-- LESSON.PLACE of a loose record, and of one that stands in another lesson (R38, R32, R33). -/
def Sys2Proof.Says.LessonPlaceInserts : Prop :=
  ∀ (s : State) (lvl : Level) (i : Fin 64) (d : Fin 8) (p : Nat), i ≠ 0 → (s.page i).st = .opened →
    (s.page i).setup.lock.rank ≤ lvl.rank → s.placeable lvl .presenter (some (d, p)) →
    ((s.page i).lesson = none →
      exec (.lessonPlace lvl (s.refTo i) ⟨d.val + 1, p⟩) s =
        answers (s.allocated i (s.page i) (some (d, p))) .ok (.position p))
      ∧ ∀ l : Fin 8, (s.page i).lesson = some l → l ≠ d → (s.lesson l).st ≠ .committing →
        (s.lesson l).lock.rank ≤ lvl.rank → i ∈ (s.lesson l).order →
        exec (.lessonPlace lvl (s.refTo i) ⟨d.val + 1, p⟩) s =
          answers
            ({ s with
                lessons := s.lessons.set l
                  { s.lesson l with
                    order := (s.lesson l).order.eraseIdx ((s.lesson l).order.idxOf i)
                    cursor := cursorRemove (s.lesson l).cursor ((s.lesson l).order.idxOf i)
                      ((s.lesson l).order.length - 1)
                    dirty := true } }.allocated i (s.page i) (some (d, p)))
            .ok (.position p)

/-- LESSON.MOVE: the entry at a stands at b, the cursor follows its record, the record and the lesson are dirty
(R39, R33). -/
def Sys2Proof.Says.LessonMoveReorders : Prop :=
  ∀ (s : State) (lvl : Level) (l : Fin 8) (i : Fin 64) (a b : Nat),
    (s.lesson l).st = .opened → (s.lesson l).lock.rank ≤ lvl.rank → (s.lesson l).order.length ≤ 32 →
    (s.lesson l).order[a]? = some i → b < (s.lesson l).order.length →
    (s.page i).setup.lock.rank ≤ lvl.rank →
    exec (.lessonMove lvl (l.val + 1) a b) s =
      answers
        { s with
          records := s.records.set i { s.page i with dirty := true }
          lessons := s.lessons.set l
            { s.lesson l with
              order := ((s.lesson l).order.eraseIdx a).insertIdx b i
              cursor := cursorMove (s.lesson l).cursor a b
              dirty := true } }
        .ok .empty

/-- LESSON.REMOVE leaves the record loose and OPEN (R40, R33). -/
def Sys2Proof.Says.LessonRemoveTakesOut : Prop :=
  ∀ (s : State) (lvl : Level) (l : Fin 8) (i : Fin 64) (p : Nat),
    (s.lesson l).st = .opened → (s.lesson l).lock.rank ≤ lvl.rank → p ≤ 31 →
    (s.lesson l).order[p]? = some i → (s.page i).setup.lock.rank ≤ lvl.rank →
    exec (.lessonRemove lvl (l.val + 1) p) s =
      answers
        { s with
          records := s.records.set i { s.page i with lesson := none, dirty := true }
          lessons := s.lessons.set l
            { s.lesson l with
              order := (s.lesson l).order.eraseIdx p
              cursor := cursorRemove (s.lesson l).cursor p ((s.lesson l).order.length - 1)
              dirty := true } }
        .ok (.handle ⟨i, (s.page i).gen⟩)

/-- The checks of LESSON.PLACE of the page a handle names into lesson n at position p: the code of the first that
fails (R38). -/
def Sys2Proof.Machine.State.placeRefusal (s : State) (lvl : Level) (h : PageRef) (n p : Nat) :
    Option ResultCode :=
  let i := recIdx h.idx.toNat
  let d := s.lesson (lessonIdx n)
  if n < 1 ∨ 8 < n ∨ 32 < p then some .range
  else if 63 < h.idx.toNat then some .range
  else if h.idx = 0 then some .target
  else if h.gen ≠ (s.page i).gen ∨ (s.page i).st ≠ .opened then some .stale
  else if lvl.rank < (s.page i).setup.lock.rank then some .locked
  else if d.st = .committing then some .busy
  else if d.st ≠ .opened then some .state
  else if lvl.rank < d.lock.rank then some .locked
  else if (s.page i).lesson = some (lessonIdx n) then some .state
  else if ∃ l : Fin 8, (s.page i).lesson = some l ∧ (s.lesson l).st = .committing then some .busy
  else if ∃ l : Fin 8, (s.page i).lesson = some l ∧ lvl.rank < (s.lesson l).lock.rank then some .locked
  else if 32 ≤ d.order.length then some .full
  else if d.order.length < p then some .range
  else none

/-- The checks of a command on the OPEN lesson n at the level of its lock (R37). -/
def Sys2Proof.Machine.State.lessonRefusal (s : State) (lvl : Level) (n : Nat) : Option ResultCode :=
  if n < 1 ∨ 8 < n then some .range
  else if (s.lesson (lessonIdx n)).st = .committing then some .busy
  else if (s.lesson (lessonIdx n)).st ≠ .opened then some .state
  else if lvl.rank < (s.lesson (lessonIdx n)).lock.rank then some .locked
  else none

/-- The checks of positions a and b of lesson n and of the lock of the record at a: the code of the first that fails
(R39, R40). -/
def Sys2Proof.Machine.State.entryRefusal (s : State) (lvl : Level) (n a b : Nat) : Option ResultCode :=
  match s.lessonRefusal lvl n with
  | some c => some c
  | none =>
    match (s.lesson (lessonIdx n)).order[a]?, (s.lesson (lessonIdx n)).order[b]? with
    | some i, some _ => if lvl.rank < (s.page i).setup.lock.rank then some .locked else none
    | _, _ => some .range

/-- The refusals of LESSON.PLACE, LESSON.MOVE and LESSON.REMOVE, in order (R37 to R40): a position above 31 of a
move or a removal is RANGE before any other check. That no lock is asked of the other records, whose positions change
with the named one's, is the model's reading (DEDUCED, log 39). -/
def Sys2Proof.Says.OrderChangesRefused : Prop :=
  ∀ (s : State) (lvl : Level) (c : ResultCode),
    (∀ (h : PageRef) (n p : Nat), s.placeRefusal lvl h n p = some c →
        exec (.lessonPlace lvl h ⟨n, p⟩) s = answers s c .empty)
      ∧ ∀ n a b : Nat,
        ((31 < a ∨ 31 < b) → exec (.lessonMove lvl n a b) s = answers s .range .empty)
          ∧ (31 < a → exec (.lessonRemove lvl n a) s = answers s .range .empty)
          ∧ (a ≤ 31 → b ≤ 31 → s.entryRefusal lvl n a b = some c →
            exec (.lessonMove lvl n a b) s = answers s c .empty)
          ∧ (a ≤ 31 → s.entryRefusal lvl n a a = some c →
            exec (.lessonRemove lvl n a) s = answers s c .empty)

/-- The cursor names the same page after an insertion, a move, or the removal of another entry; a removal of
the entry at the cursor leaves the entry that followed, else the new last entry, else no cursor (R33). -/
def Obligations.CursorFollowsItsPage : Prop :=
  ∀ (order : List (Fin 64)) (c : Nat), c < order.length →
    (∀ (p : Nat) (i : Fin 64), p ≤ order.length →
        ∃ c', cursorInsert (some c) p = some c' ∧ (order.insertIdx p i)[c']? = order[c]?)
      ∧ (∀ (a b : Nat) (i : Fin 64), order[a]? = some i → b < order.length →
        ∃ c', cursorMove (some c) a b = some c' ∧ ((order.eraseIdx a).insertIdx b i)[c']? = order[c]?)
      ∧ (∀ p : Nat, p < order.length → p ≠ c →
        ∃ c', cursorRemove (some c) p (order.length - 1) = some c' ∧ (order.eraseIdx p)[c']? = order[c]?)
      ∧ cursorRemove (some c) c (order.length - 1) =
          (if c + 1 < order.length then some c
          else if 1 < order.length then some (order.length - 2)
          else none)
      ∧ ∀ p a b n : Nat, cursorInsert none p = none ∧ cursorMove none a b = none ∧ cursorRemove none p n = none

/-- The position a step goes to (R41). -/
def Sys2Proof.Machine.steppedTo (k : StepKind) (q : Nat) (c : Option Nat) (n : Nat) : Nat :=
  match k, c with
  | .next, none => 0
  | .next, some c => if c = n - 1 then c else c + 1
  | .prev, none => n - 1
  | .prev, some c => if c = 0 then c else c - 1
  | .first, _ => 0
  | .last, _ => n - 1
  | .position, _ => q

/-- The state after lesson l's cursor is set to p, where record i stands, and PAGE of record i is staged into
the following views (R41, R44). -/
def Sys2Proof.Machine.State.stepped (s : State) (l : Fin 8) (p : Nat) (i : Fin 64) : State :=
  { s with lessons := s.lessons.set l { s.lesson l with cursor := some p } }.stageFollowing
    (.page ⟨i, (s.page i).gen⟩)

/-- LESSON.STEP, NEXT and PREV move the cursor of an active lesson with pages and stage the page there (R41 to
R44). -/
def Sys2Proof.Says.StepsMoveCursorAndStage : Prop :=
  ∀ (s : State) (l : Fin 8) (q : Nat) (i : Fin 64), s.active = some l →
    ((s.lesson l).st = .opened ∨ (s.lesson l).st = .committing) → (s.lesson l).order ≠ [] →
    (∀ k : StepKind, k ≠ .position →
        (s.lesson l).order[steppedTo k q (s.lesson l).cursor (s.lesson l).order.length]? = some i →
        exec (.lessonStep ⟨.val k, none⟩) s =
          answers (s.stepped l (steppedTo k q (s.lesson l).cursor (s.lesson l).order.length) i) .ok
            (.stepped (steppedTo k q (s.lesson l).cursor (s.lesson l).order.length) ⟨i, (s.page i).gen⟩))
      ∧ (q ≤ 31 → (s.lesson l).order[q]? = some i →
        exec (.lessonStep ⟨.val .position, some q⟩) s =
          answers (s.stepped l q i) .ok (.stepped q ⟨i, (s.page i).gen⟩))
      ∧ ((s.lesson l).order[steppedTo .next q (s.lesson l).cursor (s.lesson l).order.length]? = some i →
        exec .nextEdge s =
          .next (s.stepped l (steppedTo .next q (s.lesson l).cursor (s.lesson l).order.length) i))
      ∧ ((s.lesson l).order[steppedTo .prev q (s.lesson l).cursor (s.lesson l).order.length]? = some i →
        exec .prevEdge s =
          .next (s.stepped l (steppedTo .prev q (s.lesson l).cursor (s.lesson l).order.length) i))

/-- An edge that finds no active lesson, or an empty order, is ignored; LESSON.STEP is refused STATE (R42,
R43). -/
def Sys2Proof.Says.StepsWithoutPages : Prop :=
  ∀ s : State, (s.active = none ∨ ∃ l : Fin 8, s.active = some l ∧ (s.lesson l).order = []) →
    exec .nextEdge s = .next s ∧ exec .prevEdge s = .next s
      ∧ (∀ k : StepKind, k ≠ .position → exec (.lessonStep ⟨.val k, none⟩) s = answers s .state .empty)
      ∧ ∀ q : Nat, q ≤ 31 → exec (.lessonStep ⟨.val .position, some q⟩) s = answers s .state .empty

/-- The other refusals of LESSON.STEP: before the lesson is looked at, a kind outside the five or a position above 31 is
RANGE, and then POSITION without a position, or another kind with one, ARGUMENT; after it, a position not below the
order's length RANGE (R43). -/
def Sys2Proof.Says.StepPayloadsRefused : Prop :=
  ∀ s : State,
    (∀ (kind : Code StepKind) (q : Option Nat), (kind = .other ∨ ∃ n, q = some n ∧ 31 < n) →
        exec (.lessonStep ⟨kind, q⟩) s = answers s .range .empty)
      ∧ exec (.lessonStep ⟨.val .position, none⟩) s = answers s .argument .empty
      ∧ (∀ (k : StepKind) (q : Nat), k ≠ .position → q ≤ 31 →
        exec (.lessonStep ⟨.val k, some q⟩) s = answers s .argument .empty)
      ∧ ∀ (l : Fin 8) (q : Nat), s.active = some l →
        ((s.lesson l).st = .opened ∨ (s.lesson l).st = .committing) → (s.lesson l).order ≠ [] → q ≤ 31 →
        (s.lesson l).order.length ≤ q →
        exec (.lessonStep ⟨.val .position, some q⟩) s = answers s .range .empty

/-- The views whose staged follow flag is set and whose staged selection names record i (R44, R24). -/
def Sys2Proof.Machine.State.followersOn (s : State) (i : Fin 64) : List ViewId :=
  ViewId.all.filter fun v => (s.view v).staged.follow && (s.view v).staged.sel.page? == some i

/-- Staging into following views: their staged selection is the one staged and nothing else of any view
changes; a record gains a selection ref for each following view that comes to name it and loses one for each
that ceases to (R24, R44). The premise is R24's: the selection refs count at least those views. -/
def Obligations.StagingReachesFollowers : Prop :=
  ∀ (s : State) (sel : Selection),
    (∀ i : Fin 64, (s.followersOn i).length ≤ (s.page i).selRefs) →
    (∀ v : ViewId, (s.stageFollowing sel).view v =
        if (s.view v).staged.follow then
          { s.view v with staged := { (s.view v).staged with sel := sel } }
        else s.view v)
      ∧ (∀ i : Fin 64, (s.stageFollowing sel).page i =
        { s.page i with
          selRefs := (s.page i).selRefs - (s.followersOn i).length
            + if sel.page? = some i then (ViewId.all.filter fun v => (s.view v).staged.follow).length else 0 })
      ∧ s.stageFollowing sel =
        { s with records := (s.stageFollowing sel).records, views := (s.stageFollowing sel).views }

/-- LESSON.READ returns the whole of one lesson in every state (R45). -/
def Sys2Proof.Says.LessonReadReturnsLesson : Prop :=
  ∀ s : State,
    (∀ l : Fin 8, exec (.lessonRead (l.val + 1)) s =
        answers s .ok
          (.lesson
            { st := (s.lesson l).st
              label := (s.lesson l).label
              lock := (s.lesson l).lock
              stored := (s.lesson l).stored
              lost := (s.lesson l).lost
              dirty := (s.lesson l).dirty
              active := decide (s.active = some l)
              order := (s.lesson l).order.map fun i => ⟨i, (s.page i).gen⟩
              cursor := (s.lesson l).cursor
              progress := (s.lesson l).progress }))
      ∧ ∀ n : Nat, (n = 0 ∨ 8 < n) → exec (.lessonRead n) s = answers s .range .empty

/-- Record i names slot k, as its still or its fill pending (R50). -/
def Sys2Proof.Machine.State.ownsSlot (s : State) (i : Fin 64) (k : Fin 24) : Prop :=
  (s.page i).still = some k ∨ (s.page i).fill = some k

/-- The premises of an eviction on the records of lesson l's order: OPEN records of 1..63, each of this lesson
and once in it (R32), each still and each fill pending a slot of its own (R50). -/
def Sys2Proof.Machine.State.orderAgrees (s : State) (l : Fin 8) : Prop :=
  (s.lesson l).order.Nodup
    ∧ (∀ i ∈ (s.lesson l).order, i ≠ 0 ∧ (s.page i).st = .opened ∧ (s.page i).lesson = some l)
    ∧ ∀ i ∈ (s.lesson l).order, (∀ k : Fin 24, (s.page i).still = some k → (s.page i).fill ≠ some k)
      ∧ ∀ j ∈ (s.lesson l).order, i ≠ j → ∀ k : Fin 24, s.ownsSlot i k → ¬ s.ownsSlot j k

/-- LESSON.EVICT retires every record of the order, its fill aborted and, with holds 0, its still released and the
blocks returned, and makes the lesson ABSENT, keeping stored and lost (R46, R47). -/
def Sys2Proof.Says.LessonEvictUnloads : Prop :=
  ∀ (s : State) (lvl : Level) (l : Fin 8) (form : EvictForm), form ≠ .other → (s.lesson l).st = .opened →
    (s.lesson l).lock.rank ≤ lvl.rank → ((s.lesson l).dirty = true → form = .discard) → s.orderAgrees l →
    (∀ i ∈ (s.lesson l).order,
      (s.page i).setup.lock.rank ≤ lvl.rank ∧ (s.page i).selRefs = 0 ∧ (s.page i).cycRefs = 0) →
    ∃ t : State,
      exec (.lessonEvict lvl (l.val + 1) form) s =
        answers t .ok
          (.evicted ((s.lesson l).order.countP fun i => (s.page i).holds = 0)
            ((s.lesson l).order.countP fun i => (s.page i).holds ≠ 0))
        ∧ t.lessons = s.lessons.set l
          { st := .absent, label := none, lock := .presenter, stored := (s.lesson l).stored,
            lost := (s.lesson l).lost, dirty := false, order := [], cursor := none, progress := none }
        ∧ t.active = (if s.active = some l then none else s.active)
        ∧ (∀ i : Fin 64, i ∉ (s.lesson l).order → t.page i = s.page i)
        ∧ (∀ i ∈ (s.lesson l).order,
          t.page i =
              (if (s.page i).holds = 0 then Record.blank ((s.page i).gen + 1)
              else
                { s.page i with
                  st := .retiring, gen := (s.page i).gen + 1, lesson := none, fill := none, dirty := true })
            ∧ ∀ k : Fin 24,
              ((s.page i).fill = some k → t.slot k = (s.slot k).freed)
                ∧ ((s.page i).still = some k →
                  t.slot k =
                    if (s.page i).holds = 0 then (s.slot k).released
                    else { s.slot k with record := some ⟨i, (s.page i).gen + 1⟩ }))
        ∧ (∀ k : Fin 24, (∀ i ∈ (s.lesson l).order, ¬ s.ownsSlot i k) → t.slot k = s.slot k)
        ∧ t.freeBlocks = s.freeBlocks
          + ((s.lesson l).order.map fun i => s.blocksOf (s.page i).fill
            + if (s.page i).holds = 0 then s.blocksReleased (s.page i).still else 0).sum
        ∧ t.link = { s.link with
            status := if ∃ i ∈ (s.lesson l).order, (s.page i).fill.isSome then
                s.link.status ||| Flag.only .freezeAborted else s.link.status }
        ∧ t = { s with
            records := t.records, lessons := t.lessons, active := t.active, slots := t.slots,
            freeBlocks := t.freeBlocks, link := t.link }

/-- LESSON.EVICT refuses a dirty lesson without the discard flag, and a lesson with a referenced record, which
it names (R46). -/
def Sys2Proof.Says.LessonEvictRefusals : Prop :=
  ∀ (s : State) (lvl : Level) (l : Fin 8), (s.lesson l).st = .opened → (s.lesson l).lock.rank ≤ lvl.rank →
    (∀ i ∈ (s.lesson l).order, (s.page i).setup.lock.rank ≤ lvl.rank) →
    ((s.lesson l).dirty = true → exec (.lessonEvict lvl (l.val + 1) .keep) s = answers s .dirty .empty)
      ∧ ∀ i ∈ (s.lesson l).order, (0 < (s.page i).selRefs ∨ 0 < (s.page i).cycRefs) →
        (∀ j ∈ (s.lesson l).order, j < i → (s.page j).selRefs = 0 ∧ (s.page j).cycRefs = 0) →
        exec (.lessonEvict lvl (l.val + 1) .discard) s = answers s .referenced (.names i)

/-- The refusals of LESSON.EVICT before its fifth check, in order: a lesson number outside 1..8 RANGE, a payload neither
empty nor the discard flag ARGUMENT, a COMMITTING lesson BUSY, an ABSENT or LOADING one STATE, a lesson lock above the
level LOCKED, and a record lock above it LOCKED with the lowest such record named (R46). -/
def Sys2Proof.Says.LessonEvictChecks : Prop :=
  ∀ (s : State) (lvl : Level),
    (∀ (n : Nat) (form : EvictForm), (n < 1 ∨ 8 < n) →
        exec (.lessonEvict lvl n form) s = answers s .range .empty)
      ∧ ∀ l : Fin 8, exec (.lessonEvict lvl (l.val + 1) .other) s = answers s .argument .empty
        ∧ ∀ form : EvictForm, form ≠ .other →
          ((s.lesson l).st = .committing →
              exec (.lessonEvict lvl (l.val + 1) form) s = answers s .busy .empty)
            ∧ (((s.lesson l).st = .absent ∨ (s.lesson l).st = .loading) →
              exec (.lessonEvict lvl (l.val + 1) form) s = answers s .state .empty)
            ∧ ((s.lesson l).st = .opened → lvl.rank < (s.lesson l).lock.rank →
              exec (.lessonEvict lvl (l.val + 1) form) s = answers s .locked .empty)
            ∧ ∀ i ∈ (s.lesson l).order, (s.lesson l).st = .opened → (s.lesson l).lock.rank ≤ lvl.rank →
              lvl.rank < (s.page i).setup.lock.rank →
              (∀ j ∈ (s.lesson l).order, j < i → (s.page j).setup.lock.rank ≤ lvl.rank) →
              exec (.lessonEvict lvl (l.val + 1) form) s = answers s .locked (.names i)

/-! ### Still Store (R48 to R64) -/

/-- STILL.FREEZE: the lowest FREE slot becomes FILLING for the record and takes its blocks (R54, R57). -/
def Sys2Proof.Says.StillFreezeStartsFill : Prop :=
  ∀ (s : State) (lvl : Level) (i : Fin 64) (k : Fin 24) (src : FreezeSource), i ≠ 0 → s.editable lvl i →
    (s.page i).fill = none → s.canFreeze src → s.takesSlot k → s.freezeBlocks src ≤ s.freeBlocks →
    exec (.stillFreeze lvl (s.refTo i) (.val src)) s =
      answers
        { s with
          records := s.records.set i { s.page i with fill := some k }
          slots := s.slots.set k ((s.slot k).frozen i (s.page i).gen (s.freezeBlocks src) src)
          freeBlocks := s.freeBlocks - s.freezeBlocks src }
        .accepted (.frozen k (s.freezeBlocks src))

/-- STILL.FREEZE refuses a record with a fill pending BUSY, an unmet source STATE, a store without a FREE slot
NO_STILL, and too few blocks NO_STILL with STILL_FULL set (R54 steps 7 to 10). -/
def Sys2Proof.Says.StillFreezeRefusals : Prop :=
  ∀ (s : State) (lvl : Level) (i : Fin 64) (src : FreezeSource), i ≠ 0 → s.editable lvl i →
    ((s.page i).fill.isSome →
        exec (.stillFreeze lvl (s.refTo i) (.val src)) s = answers s .busy .empty)
      ∧ ((s.page i).fill = none → ¬ s.canFreeze src →
        exec (.stillFreeze lvl (s.refTo i) (.val src)) s = answers s .state .empty)
      ∧ ((s.page i).fill = none → s.canFreeze src → (∀ k : Fin 24, (s.slot k).st ≠ .free) →
        exec (.stillFreeze lvl (s.refTo i) (.val src)) s = answers s .noStill .empty)
      ∧ ((s.page i).fill = none → s.canFreeze src → (∃ k : Fin 24, (s.slot k).st = .free) →
        s.freeBlocks < s.freezeBlocks src →
        exec (.stillFreeze lvl (s.refTo i) (.val src)) s =
          answers { s with link := { s.link with status := s.link.status ||| Flag.only .stillFull } }
            .noStill .empty)

/-- The block count of a freeze: 3 from PROJ; from PAGE the enclosed area over 1,048,576 rounded up, at least
1, the area being half of `twiceArea` (R55, R56). -/
def Sys2Proof.Says.FreezeBlockCount : Prop :=
  ∀ s : State,
    s.freezeBlocks .proj = 3
      ∧ (∀ c : Corners, s.cornerChoice = some c →
        1 ≤ s.freezeBlocks .page ∧ twiceArea c ≤ 2 * 1048576 * s.freezeBlocks .page
          ∧ (1 < s.freezeBlocks .page → 2 * 1048576 * (s.freezeBlocks .page - 1) < twiceArea c))
      ∧ ((s.page 0).setup.corners.isSome → s.cornerChoice = (s.page 0).setup.corners)
      ∧ ((s.page 0).setup.corners = none → s.cornerChoice = s.pfd.liveCorners)
      ∧ ∀ x0 y0 x1 y1 x2 y2 x3 y3 : Nat,
        twiceArea ⟨⟨x0, y0⟩, ⟨x1, y1⟩, ⟨x2, y2⟩, ⟨x3, y3⟩⟩ =
          (((x0 : Int) * y1 - x1 * y0) + ((x1 : Int) * y2 - x2 * y1) + ((x2 : Int) * y3 - x3 * y2)
            + ((x3 : Int) * y0 - x0 * y3)).natAbs

/-- STILL.DROP of one record: its fill aborted, its still released, the record and its lesson dirty (R62, R60,
R52). The premise is R50's: still and fill are never the same slot. -/
def Sys2Proof.Says.StillDropReleases : Prop :=
  ∀ (s : State) (lvl : Level) (i : Fin 64), i ≠ 0 → s.editable lvl i →
    (∀ k : Fin 24, (s.page i).still = some k → (s.page i).fill ≠ some k) →
    exec (.stillDrop lvl (.page (s.refTo i))) s =
      answers
        { s with
          records := s.records.set i { s.page i with still := none, fill := none, dirty := true }
          lessons := s.lessonsEdited i
          slots := Vector.ofFn fun k =>
            if (s.page i).fill = some k then (s.slot k).freed
            else if (s.page i).still = some k then (s.slot k).released
            else s.slot k
          freeBlocks := s.freeBlocks + s.blocksOf (s.page i).fill + s.blocksReleased (s.page i).still
          link := { s.link with status := s.statusAborting (s.page i).fill } }
        .ok .empty

/-- A fill that completes: the slot is READY and the record's still, the previous still is released, the record
and its lesson are dirty, and FREEZE_DONE is set (R59). The premises are R50's agreement. -/
def Sys2Proof.Says.FillCompletionGivesStill : Prop :=
  ∀ (s : State) (k : Fin 24) (i : Fin 64) (gen : Byte) (picture : Picture) (light : Fin 16), i ≠ 0 →
    (s.slot k).record = some ⟨i, gen⟩ → (s.page i).still ≠ some k →
    s.completeFill k picture light =
      { s with
        records := s.records.set i { s.page i with still := some k, fill := none, dirty := true }
        lessons := s.lessonsEdited i
        slots := Vector.ofFn fun j =>
          if j = k then
            { s.slot k with st := .ready, source := none, phase := none, capture := none,
                            picture := some picture, light := light }
          else if (s.page i).still = some j then (s.slot j).released
          else s.slot j
        freeBlocks := s.freeBlocks + s.blocksReleased (s.page i).still
        link := { s.link with status := s.link.status ||| Flag.only .freezeDone } }

/-- STILL.READ returns the whole store and changes nothing (R64). -/
def Sys2Proof.Says.StillReadReturnsStore : Prop :=
  ∀ s : State, ∃ slots : List SlotReply,
    exec .stillRead s =
        answers s .ok (.stills s.freeBlocks ((List.finRange 24).countP fun k => (s.slot k).st = .free) slots)
      ∧ slots.length = 24
      ∧ ∀ k : Fin 24, ∃ r, slots[k.val]? = some r ∧ r.st = (s.slot k).st ∧ r.blocks = (s.slot k).blocks
        ∧ r.holds = (s.slot k).holds
        ∧ r.picture = (if (s.slot k).st = .free then none else some ((s.slot k).kind, (s.slot k).light))
        ∧ r.source = (if (s.slot k).st = .filling then (s.slot k).source else none)
        ∧ r.phase = (if (s.slot k).st = .filling then (s.slot k).phase else none)
        ∧ (((s.slot k).st = .free ∨ (s.slot k).st = .released) → r.owner = none)
        ∧ ∀ h : Handle, (s.slot k).record = some h →
          ((s.slot k).st = .ready → r.owner = some (⟨h.idx, (s.page h.idx).gen⟩, .still))
            ∧ ((s.slot k).st = .filling → r.owner = some (⟨h.idx, (s.page h.idx).gen⟩, .fill))

/-! ### Sensor Intake and the Page Finder (R65 to R89) -/

/-- A PAGE fill of the slot that the intake frame starting now captures: QUEUED, or CAPTURING on a frame this
start overtakes (R58, R66). -/
def Sys2Proof.Machine.Slot.capturedNow (x : Slot) (overtakes : Bool) : Prop :=
  x.st = .filling ∧ x.source = some .page
    ∧ (x.phase = some .queued ∨ (overtakes = true ∧ x.phase = some .capturing))

/-- INTAKE_FRAME_START: a frame in progress is overtaken and incomplete, the timer restarts, waiting PAGE fills
are captured with the corners standing, and the focus run offers its request on a free AUTO slot (R65, R66, R58,
R84, R85). That the slot is free while the Page Finder's own transaction drains after a soft reset is the model's choice
(DESIGN CHOICE, unsafe, log 40). -/
def Sys2Proof.Says.IntakeFrameStartBegins : Prop :=
  ∀ s : State, ∃ t : State,
    exec .intakeFrameStart s = .next t
      ∧ t.sin = { s.sin with
          good := if s.sin.inProgress then 0 else s.sin.good, inProgress := true, timer := 0 }
      ∧ (∀ k : Fin 24,
        ((s.slot k).capturedNow s.sin.inProgress →
          t.slot k = { s.slot k with phase := some .capturing, capture := s.cornerChoice })
          ∧ (¬ (s.slot k).capturedNow s.sin.inProgress → t.slot k = s.slot k))
      ∧ t.lens =
        (if s.lens.auto.isSome then s.lens
        else
          match s.pfd.run with
          | .idle => s.lens
          | .starting => s.lens.queueAuto .focusStart
          | .polling => s.lens.queueAuto .focusPoll)
      ∧ t = { s with sin := t.sin, slots := t.slots, lens := t.lens }

/-- INTAKE_FRAME_END without a frame in progress changes nothing (the model's choice, log 4: such an end cannot
come); an incomplete frame makes the count 0 and returns its fills to QUEUED, and the Page Finder does not change
(R66). -/
def Sys2Proof.Says.IncompleteIntakeFrame : Prop :=
  ∀ (s : State) (f : IntakeFrame),
    (s.sin.inProgress = false → exec (.intakeFrameEnd f) s = .next s)
      ∧ (s.sin.inProgress = true → f.full = false →
        exec (.intakeFrameEnd f) s =
          .next { s with
            sin := { s.sin with good := 0, inProgress := false }
            slots := Vector.ofFn fun k =>
              if (s.slot k).st = .filling ∧ (s.slot k).source = some .page
                ∧ (s.slot k).phase = some .capturing then
                { s.slot k with phase := some .queued, capture := none }
              else s.slot k })

/-- A complete frame's end moves Sensor Intake: the count rises and stays at 65535, WAITING and the second
complete frame of LOST become RUNNING with the Page Finder EMPTY and no previous analysed frame, so that the first one
it analyses has motion 255 (R71; the flag is the model's form: log 26), and a frame ended with SIN RUNNING is the last
good picture (R66 to R69, R73). -/
def Sys2Proof.Says.CompleteFrameMovesIntake : Prop :=
  ∀ (s : State) (f : IntakeFrame), s.sin.inProgress = true → f.full = true →
    ∃ t : State, exec (.intakeFrameEnd f) s = .next t
      ∧ t.sin.good = min 65535 (s.sin.good + 1) ∧ t.sin.inProgress = false ∧ t.sin.timer = s.sin.timer
      ∧ ((s.sin.st = .waiting ∨ s.sin.st = .running ∨ 2 ≤ t.sin.good) →
        t.sin.st = .running ∧ t.sin.lastGood = some f.pixels)
      ∧ (s.sin.st = .lost → t.sin.good < 2 → t.sin.st = .lost ∧ t.sin.lastGood = s.sin.lastGood)
      ∧ ((s.sin.st = .waiting ∨ (s.sin.st = .lost ∧ 2 ≤ t.sin.good)) →
        t.pfd.st = .empty ∧ t.pfd.stable = 0 ∧ t.pfd.missing = 0 ∧ t.pfd.hasPrevious = false
          ∧ t.pfd.liveCorners = none ∧ t.pfd.liveSig = s.pfd.liveSig ∧ t.pfd.latest = s.pfd.latest)
      ∧ t = { s with
          sin := t.sin, pfd := t.pfd, records := t.records, lessons := t.lessons, slots := t.slots,
          freeBlocks := t.freeBlocks, views := t.views, lens := t.lens, link := t.link }
      ∧ t.link = { s.link with status := t.link.status }

/-- Slot k is FILLING from this source in phase CAPTURING (R58). -/
def Sys2Proof.Machine.State.capturing (s : State) (src : FillSource) (k : Fin 24) : Prop :=
  (s.slot k).st = .filling ∧ (s.slot k).source = some src ∧ (s.slot k).phase = some .capturing

/-- R50's agreement for the fills from a source: each is the fill pending of the one record of 1..63 it names, and no
still is a FILLING slot or the still of two records. -/
def Sys2Proof.Machine.State.fillsAgree (s : State) (src : FillSource) : Prop :=
  (∀ k : Fin 24, (s.slot k).st = .filling → (s.slot k).source = some src →
      ∃ (i : Fin 64) (gen : Byte), i ≠ 0 ∧ (s.slot k).record = some ⟨i, gen⟩
        ∧ ∀ j : Fin 64, (s.page j).fill = some k ↔ j = i)
    ∧ ∀ (i j : Fin 64) (k : Fin 24), (s.page i).still = some k →
      (s.slot k).st ≠ .filling ∧ ((s.page j).still = some k → i = j)

/-- Every fill of u from a source that is CAPTURING has completed in t, slot k with the picture given for it and this
light level: READY and its record's still, the record and its lesson dirty, the previous still released; FREEZE_DONE
is set; every slot else but those of `others` stands (R59). -/
def Sys2Proof.Machine.State.fillsCompleted (u t : State) (src : FillSource) (picture : Fin 24 → Picture)
    (light : Fin 16) (others : Fin 24 → Prop) : Prop :=
  (∀ (k : Fin 24) (i : Fin 64), u.capturing src k → (u.page i).fill = some k →
      t.slot k =
          { u.slot k with st := .ready, source := none, phase := none, capture := none,
                          picture := some (picture k), light := light }
        ∧ t.page i = { u.page i with
          still := some k, fill := none, dirty := true, selRefs := (t.page i).selRefs }
        ∧ (∀ j : Fin 24, (u.page i).still = some j → t.slot j = (u.slot j).released)
        ∧ (∀ l : Fin 8, (u.page i).lesson = some l → (t.lesson l).dirty = true)
        ∧ t.hasFlag .freezeDone = true)
    ∧ ∀ k : Fin 24, ¬ u.capturing src k → ¬ others k →
      (∀ (i : Fin 64) (j : Fin 24), (u.page i).still = some k → (u.page i).fill = some j →
        ¬ u.capturing src j) → t.slot k = u.slot k

/-- At the end of a complete intake frame every PAGE fill CAPTURING on it completes, with that frame straightened
through the corners of its start and with its light measure; the other fills stand (R55, R58, R59, R66). -/
def Sys2Proof.Says.PageFillsComplete : Prop :=
  ∀ (s : State) (f : IntakeFrame), s.sin.inProgress = true → f.full = true → s.fillsAgree .page →
    ∃ t : State, exec (.intakeFrameEnd f) s = .next t
      ∧ s.fillsCompleted t .page (fun k => .straightened f.pixels (s.slot k).capture) f.light (fun _ => False)

/-- The frame flags of R79 from a frame's focus, light and glare, as the Page Finder stands. -/
def Sys2Proof.Machine.flagsOf (p : Finder) (focus light glare : Nat) : Quality where
  focusLow :=
    if p.focusLowHeld then
      decide (focus < if p.settings.focusLow > 247 then 255 else p.settings.focusLow + 8)
    else decide (focus < p.settings.focusLow)
  dark := decide (light ≤ p.settings.dark)
  bright := decide (light ≥ p.settings.bright)
  glare := decide (glare > p.settings.glare)

/-- A frame analysed with SIN RUNNING: its measures, its flags, the focus-low flag held, the report in either
mode, and QUALITY raised where the report is not empty (R71, R79, R80). -/
def Sys2Proof.Says.AnalysedFrameUpdatesQuality : Prop :=
  ∀ (s : State) (f : IntakeFrame), s.sin.inProgress = true → f.full = true → s.sin.st = .running →
    ∃ t : State, exec (.intakeFrameEnd f) s = .next t
      ∧ t.pfd.latest = some
        { outline := f.outline.isSome
          motion := if s.pfd.hasPrevious then f.motion else 255
          focus := f.focus
          light := f.light
          glare := f.glare }
      ∧ t.pfd.flags = flagsOf s.pfd f.focus.val f.light.val f.glare.val
      ∧ t.pfd.focusLowHeld = t.pfd.flags.focusLow
      ∧ t.pfd.hasPrevious = true
      ∧ (s.pfd.settings.report = .perFrame → t.pfd.report = t.pfd.flags)
      ∧ (s.pfd.settings.report = .accumulate →
        t.pfd.report =
          ⟨s.pfd.report.focusLow || t.pfd.flags.focusLow, s.pfd.report.dark || t.pfd.flags.dark,
            s.pfd.report.bright || t.pfd.flags.bright, s.pfd.report.glare || t.pfd.flags.glare⟩)
      ∧ (t.pfd.report ≠ ⟨false, false, false, false⟩ → t.hasFlag .quality = true)

/-- The state and the counters after an analysed frame, with and without an outline, its motion low or high
(R72): the table's rows. -/
def Sys2Proof.Machine.movesTo (p : Finder) (outline low : Bool) : FinderState × Nat × Nat :=
  match p.st, outline with
  | .noSignal, _ => (.noSignal, p.stable, p.missing)
  | .empty, false => (.empty, p.stable, p.missing)
  | .empty, true =>
    if low then (if p.settings.settle ≤ 1 then (.settled, 1, 0) else (.arriving, 1, 0)) else (.arriving, 0, 0)
  | .settled, true => if low then (.settled, p.stable, 0) else (.moving, 0, 0)
  | st, true =>
    if low then (if p.settings.settle ≤ p.stable + 1 then (.settled, p.stable + 1, 0) else (st, p.stable + 1, 0))
    else (st, 0, 0)
  | st, false => if p.settings.missing ≤ p.missing + 1 then (.empty, 0, 0) else (st, 0, p.missing + 1)

/-- Every analysed frame moves the finder state and counters by the table of R72, a motion being low below the
motion threshold (R71, R72). -/
def Sys2Proof.Says.FinderFollowsStateTable : Prop :=
  ∀ (s : State) (f : IntakeFrame), s.sin.inProgress = true → f.full = true → s.sin.st = .running →
    ∃ t : State, exec (.intakeFrameEnd f) s = .next t
      ∧ (t.pfd.st, t.pfd.stable, t.pfd.missing) =
        movesTo s.pfd f.outline.isSome
          (decide ((if s.pfd.hasPrevious then f.motion.val else 255) < s.pfd.settings.motion))

/-- The premises of a settle event at the end of an intake frame with outline c, with a settle count of 1 from EMPTY
too (R72, R74). -/
def Sys2Proof.Machine.State.settlesAt (s : State) (f : IntakeFrame) (c : Corners) : Prop :=
  s.sin.inProgress = true ∧ f.full = true ∧ s.sin.st = .running ∧ s.pfd.hasPrevious = true
    ∧ (((s.pfd.st = .arriving ∨ s.pfd.st = .moving) ∧ s.pfd.settings.settle ≤ s.pfd.stable + 1)
      ∨ (s.pfd.st = .empty ∧ s.pfd.settings.settle ≤ 1))
    ∧ f.outline = some c ∧ f.motion.val < s.pfd.settings.motion

/-- A settle event: the live signature is computed and given to record 0, the corners too but under tracking
OFF, record 0 takes no dirty flag, and SETTLED is set (R74, R75, R78). The signature is the model's `liveSignature`:
at a rotation of 90 or 270 degrees it rests on the turn being clockwise, the model's inference (DEDUCED, unsafe, log
17); R75 gives the signature's orientation as the page's. -/
def Sys2Proof.Says.SettleEventWritesRecordZero : Prop :=
  ∀ (s : State) (f : IntakeFrame) (c : Corners), s.settlesAt f c →
    ∃ t : State, exec (.intakeFrameEnd f) s = .next t
      ∧ t.pfd.st = .settled ∧ t.pfd.liveCorners = some c
      ∧ t.pfd.liveSig = some
        (liveSignature f.ink (s.page 0).setup.rotation (s.page 0).setup.mirror)
      ∧ (t.page 0).setup = { (s.page 0).setup with
          signature := t.pfd.liveSig
          corners := if s.pfd.settings.tracking = .off then (s.page 0).setup.corners else some c }
      ∧ (t.page 0).dirty = (s.page 0).dirty
      ∧ t.hasFlag .settled = true

/-- A settle event makes the focus check: with auto-focus on, a frame low in focus and no run in progress, a run
begins STARTING and queues its request where the AUTO slot is free, and otherwise no run begins (R74 step 6, R84).
Where the AUTO slot is taken, nothing is queued. That it is free while the Page Finder's own transaction drains after a
soft reset is the model's choice (DESIGN CHOICE, unsafe, log 40). -/
def Sys2Proof.Says.SettleEventStartsFocusRun : Prop :=
  ∀ (s : State) (f : IntakeFrame) (c : Corners), s.settlesAt f c →
    ∃ t : State, exec (.intakeFrameEnd f) s = .next t
      ∧ (s.lens.autoFocus = true → t.pfd.flags.focusLow = true → s.pfd.run = .idle →
        t.pfd.run = .starting ∧ t.pfd.busyPolls = 0
          ∧ t.lens = if s.lens.auto.isSome then s.lens else s.lens.queueAuto .focusStart)
      ∧ ((s.lens.autoFocus = false ∨ t.pfd.flags.focusLow = false ∨ s.pfd.run ≠ .idle) →
        t.pfd.run = s.pfd.run ∧ t.pfd.busyPolls = s.pfd.busyPolls)

/-- Record 0's corners at an analysed frame: under CONTINUOUS tracking every outline is written, under OFF none is,
and a frame without an outline writes none (R78). -/
def Sys2Proof.Says.TrackingWritesCorners : Prop :=
  ∀ (s : State) (f : IntakeFrame), s.sin.inProgress = true → f.full = true → s.sin.st = .running →
    ∃ t : State, exec (.intakeFrameEnd f) s = .next t
      ∧ (∀ c : Corners, s.pfd.settings.tracking = .continuous → f.outline = some c →
        (t.page 0).setup.corners = some c)
      ∧ ((s.pfd.settings.tracking = .off ∨ f.outline = none) →
        (t.page 0).setup.corners = (s.page 0).setup.corners)

/-- The nibble of an ink density: the whole part of 16 times it, and 15 where that is 16; without rotation or
mirror nibble n is cell n (R75). -/
def Sys2Proof.Says.SignatureNibbles : Prop :=
  (∀ (dark total : Nat), 0 < total → dark ≤ total →
      (inkNibble ⟨dark, total⟩).toNat = if dark = total then 15 else 16 * dark / total)
    ∧ ∀ (ink : Vector Ink 16) (n : Fin 16), (liveSignature ink .r0 false)[n] = inkNibble ink[n]

/-- A removal event, from SETTLED or MOVING: the live signature and corners become absent and LIVE is staged
into the following views; record 0 keeps its setup (R72, R77). -/
def Sys2Proof.Says.RemovalEventStagesLive : Prop :=
  ∀ (s : State) (f : IntakeFrame), s.sin.inProgress = true → f.full = true → s.sin.st = .running →
    (s.pfd.st = .settled ∨ s.pfd.st = .moving) → f.outline = none →
    s.pfd.settings.missing ≤ s.pfd.missing + 1 →
    ∃ t : State, exec (.intakeFrameEnd f) s = .next t
      ∧ t.pfd.st = .empty ∧ t.pfd.liveSig = none ∧ t.pfd.liveCorners = none
      ∧ (t.page 0).setup = (s.page 0).setup
      ∧ ∀ v : ViewId, (t.view v).staged.sel =
        if (s.view v).staged.follow then .live else (s.view v).staged.sel

/-- Whether a settle event of the frame starts a focus run (R72, R74, R84). -/
def Sys2Proof.Machine.State.startsRunAt (s : State) (f : IntakeFrame) : Prop :=
  s.pfd.st ≠ .settled
    ∧ (movesTo s.pfd f.outline.isSome
        (decide ((if s.pfd.hasPrevious then f.motion.val else 255) < s.pfd.settings.motion))).1 = .settled
    ∧ s.lens.autoFocus = true ∧ s.pfd.run = .idle
    ∧ (flagsOf s.pfd f.focus.val f.light.val f.glare.val).focusLow = true

/-- The lamp at the end of every analysed frame, in whatever state the finder is and with or without an outline: the
counters move with the frame; with auto-lamp off they are 0 and no lamp write is queued; with the AUTO slot held, or
taken by a focus run at this end, none is queued either; with the slot free a pending sync is queued, else a step up
or down at a counter of 4, each making both counters 0, and else nothing (R81, R82). That the slot is free while the
Page Finder's own transaction drains after a soft reset is the model's choice (DESIGN CHOICE, unsafe, log 40). -/
def Sys2Proof.Says.LampRequestsFollowCounters : Prop :=
  ∀ (s : State) (f : IntakeFrame), s.sin.inProgress = true → f.full = true → s.sin.st = .running →
    let dark := if s.lens.autoLamp = true ∧ f.light.val ≤ s.pfd.settings.dark then min 4 (s.pfd.darkCount + 1) else 0
    let bright :=
      if s.lens.autoLamp = true ∧ s.pfd.settings.bright ≤ f.light.val then min 4 (s.pfd.brightCount + 1) else 0
    let held := s.lens.auto.isSome ∨ s.pfd.run = .starting ∨ s.startsRunAt f
    ∃ t : State, exec (.intakeFrameEnd f) s = .next t ∧ t.pfd.lamp = s.pfd.lamp
      ∧ ((s.lens.autoLamp = false ∨ held) →
        t.pfd.syncPending = s.pfd.syncPending ∧ t.pfd.darkCount = dark ∧ t.pfd.brightCount = bright
          ∧ ∀ r : AutoReq, t.lens.auto = some r → s.lens.auto = some r ∨ r.kind = .focusStart)
      ∧ (s.lens.autoLamp = true → ¬ held →
        t.pfd.syncPending = false
          ∧ (s.pfd.syncPending = true →
            t.lens = s.lens.queueAuto (.lampSet s.pfd.lamp true) ∧ t.pfd.darkCount = 0 ∧ t.pfd.brightCount = 0)
          ∧ (s.pfd.syncPending = false →
            (∀ level : Fin 16, dark = 4 → level.val = s.pfd.lamp.val + 1 →
                t.lens = s.lens.queueAuto (.lampSet level false) ∧ t.pfd.darkCount = 0 ∧ t.pfd.brightCount = 0)
              ∧ (∀ level : Fin 16, (dark ≠ 4 ∨ s.pfd.lamp.val = 15) → bright = 4 →
                level.val + 1 = s.pfd.lamp.val →
                t.lens = s.lens.queueAuto (.lampSet level false) ∧ t.pfd.darkCount = 0 ∧ t.pfd.brightCount = 0)
              ∧ ((dark ≠ 4 ∨ s.pfd.lamp.val = 15) → (bright ≠ 4 ∨ s.pfd.lamp.val = 0) →
                t.lens = s.lens ∧ t.pfd.darkCount = dark ∧ t.pfd.brightCount = bright)))

/-- The lamp at the end of a complete frame that is not analysed: the counters stand but where a pending sync is queued,
which takes auto-lamp on and the AUTO slot free, no run starting (R67, R81). That the slot is free while the Page
Finder's own transaction drains after a soft reset is the model's choice (DESIGN CHOICE, unsafe, log 40). -/
def Sys2Proof.Says.SyncAtUnanalysedFrames : Prop :=
  ∀ (s : State) (f : IntakeFrame), s.sin.inProgress = true → f.full = true → s.sin.st ≠ .running →
    s.pfd.run ≠ .starting →
    ∃ t : State, exec (.intakeFrameEnd f) s = .next t ∧ t.pfd.lamp = s.pfd.lamp
      ∧ (s.pfd.syncPending = true → s.lens.autoLamp = true → s.lens.auto = none →
        t.lens = s.lens.queueAuto (.lampSet s.pfd.lamp true) ∧ t.pfd.syncPending = false
          ∧ t.pfd.darkCount = 0 ∧ t.pfd.brightCount = 0)
      ∧ ((s.pfd.syncPending = false ∨ s.lens.autoLamp = false ∨ s.lens.auto.isSome) →
        t.lens = s.lens ∧ t.pfd.syncPending = s.pfd.syncPending ∧ t.pfd.darkCount = s.pfd.darkCount
          ∧ t.pfd.brightCount = s.pfd.brightCount)

/-- The lens bus once a focus run is cancelled: its request is withdrawn while it waits, and one on the bus goes on,
marked so that its outcome is disregarded (R86; the mark is the model's own, log 22). -/
def Sys2Proof.Machine.Lens.runCancelled (x : Lens) : Lens :=
  match x.auto with
  | none => x
  | some r =>
    match r.kind with
    | .lampSet _ _ => x
    | _ => if x.bus = .autoOnBus then { x with auto := some { r with orphan := true } } else { x with auto := none }

/-- INTAKE_TIMEOUT: from WAITING or RUNNING the sensor is lost, the Page Finder enters NO_SIGNAL, the PAGE fills are
aborted, a focus run is cancelled with its request, and SENSOR_LOST is raised; while LOST the count becomes 0 and
SENSOR_LOST is raised again (R68, R73, R60, R86). -/
def Sys2Proof.Says.IntakeTimeoutLosesSensor : Prop :=
  ∀ s : State,
    (s.sin.st = .lost →
        exec .intakeTimeout s =
          .next { s with
            sin := { s.sin with good := 0, inProgress := false, timer := 0 }
            link := { s.link with status := s.link.status ||| Flag.only .sensorLost } })
      ∧ (s.sin.st ≠ .lost → ∃ t : State, exec .intakeTimeout s = .next t
        ∧ t.sin = { s.sin with st := .lost, good := 0, inProgress := false, timer := 0 }
        ∧ t.pfd = { s.pfd with
            st := .noSignal, stable := 0, missing := 0, darkCount := 0, brightCount := 0,
            focusLowHeld := false,
            report := if s.pfd.settings.report = .perFrame then ⟨false, false, false, false⟩
              else s.pfd.report,
            run := .idle,
            outcome := if s.pfd.run = .idle then s.pfd.outcome else .cancelled }
        ∧ t.hasFlag .sensorLost = true
        ∧ (s.pfd.run ≠ .idle → t.hasFlag .focusDone = true)
        ∧ t.lens = (if s.pfd.run = .idle then s.lens else s.lens.runCancelled)
        ∧ (∀ k : Fin 24, ∀ h : Handle, (s.slot k).st = .filling → (s.slot k).source = some .page →
          (s.slot k).record = some h → (s.page h.idx).fill = some k →
          t.slot k = (s.slot k).freed ∧ (t.page h.idx).fill = none ∧ t.hasFlag .freezeAborted = true)
        ∧ t = { s with
            sin := t.sin, pfd := t.pfd, records := t.records, slots := t.slots, freeBlocks := t.freeBlocks,
            lens := t.lens, link := t.link })

/-- FIND.SETUP: its checks in order, and its effect, which writes the named settings and keeps the others (R87). -/
def Sys2Proof.Says.FindSetupWritesSettings : Prop :=
  ∀ (s : State) (lvl : Level) (settle missing motion focusLow dark bright glare : Option Nat)
    (tracking : Option (Code Tracking)) (report : Option (Code ReportMode)),
    let old := s.pfd.settings
    exec (.findSetup lvl ⟨settle, missing, motion, focusLow, dark, bright, glare, tracking, report⟩) s =
      if settle = none ∧ missing = none ∧ motion = none ∧ focusLow = none ∧ dark = none ∧ bright = none
          ∧ glare = none ∧ tracking = none ∧ report = none then
        answers s .argument .empty
      else if (∃ n, settle = some n ∧ (n < 1 ∨ 30 < n)) ∨ (∃ n, missing = some n ∧ (n < 1 ∨ 30 < n))
          ∨ (∃ n, motion = some n ∧ 255 < n) ∨ (∃ n, focusLow = some n ∧ 255 < n)
          ∨ (∃ n, dark = some n ∧ 15 < n) ∨ (∃ n, bright = some n ∧ 15 < n) ∨ (∃ n, glare = some n ∧ 100 < n)
          ∨ tracking = some .other ∨ report = some .other then
        answers s .range .empty
      else if bright.getD old.bright ≤ dark.getD old.dark then answers s .range .empty
      else if lvl = .presenter then answers s .locked .empty
      else
        answers
          { s with
            pfd := { s.pfd with
              settings :=
                { settle := settle.getD old.settle
                  missing := missing.getD old.missing
                  motion := motion.getD old.motion
                  focusLow := focusLow.getD old.focusLow
                  dark := dark.getD old.dark
                  bright := bright.getD old.bright
                  glare := glare.getD old.glare
                  tracking := match tracking with | some (.val m) => m | _ => old.tracking
                  report := match report with | some (.val m) => m | _ => old.report } } }
          .ok .empty

/-- FIND.READ returns Sensor Intake and the Page Finder and clears nothing (R88). That no lamp request is outstanding
while a lamp write drains after a soft reset is the model's choice (DESIGN CHOICE, unsafe, log 40). -/
def Sys2Proof.Says.FindReadReturnsFinder : Prop :=
  ∀ s : State, exec .findRead s =
    answers s .ok
      (.finder
        { intake := s.sin.st
          good := s.sin.good
          hasLastGood := s.sin.lastGood.isSome
          st := s.pfd.st
          stable := s.pfd.stable
          missing := s.pfd.missing
          liveCorners := s.pfd.liveCorners
          liveSig := s.pfd.liveSig
          latest := s.pfd.latest
          flags := s.pfd.flags
          report := s.pfd.report
          settings := s.pfd.settings
          lamp := s.pfd.lamp
          syncPending := s.pfd.syncPending
          lampOutstanding := s.lens.lampOutstanding
          darkCount := s.pfd.darkCount
          brightCount := s.pfd.brightCount
          run := s.pfd.run
          busyPolls := s.pfd.busyPolls
          outcome := s.pfd.outcome })

/-- FIND.CLEAR empties the quality report; the latest flags, the focus-low held flag and the attention status
stand (R89). -/
def Sys2Proof.Says.FindClearEmptiesReport : Prop :=
  ∀ s : State, exec .findClear s =
    answers { s with pfd := { s.pfd with report := ⟨false, false, false, false⟩ } } .ok .empty

/-! ### Page Matcher (R90 to R101) -/

/-- What a comparison counts, which records are eligible, and which agree (R91). -/
def Obligations.ComparisonCountsMismatches : Prop :=
  (∀ (sig probe : Signature) (mask : BitVec 16),
      mismatches sig mask probe =
        ((List.finRange 16).countP fun n =>
          mask.getLsbD n.val && decide (2 ≤ ((sig[n].toNat : Int) - probe[n].toNat).natAbs)))
    ∧ (∀ (s : State) (i : Fin 64) (probe : Signature),
      s.agrees probe i = true ↔
        (s.page i).setup.matchEnable = true ∧ ∃ sig, (s.page i).setup.signature = some sig
          ∧ mismatches sig (s.page i).setup.sigMask probe ≤ s.tolerance)
    ∧ ∀ sig probe : Signature, mismatches sig 0 probe = 0

/-- A scan finds the first position whose record is eligible and agrees, and none where no record does (R92). -/
def Sys2Proof.Says.ScanFindsFirstAgreement : Prop :=
  ∀ (s : State) (l : Fin 8) (probe : Signature),
    (∀ p : Nat, s.scan l probe = some p ↔
        (∃ i, (s.lesson l).order[p]? = some i ∧ s.agrees probe i = true)
          ∧ ∀ q i, q < p → (s.lesson l).order[q]? = some i → s.agrees probe i = false)
      ∧ (s.scan l probe = none ↔ ∀ i ∈ (s.lesson l).order, s.agrees probe i = false)

/-- The matcher at a settle event: nothing with the enable off or no active lesson; a recall on a match; an
unmatch otherwise, which leaves the cursor (R93 to R95). -/
def Sys2Proof.Says.MatcherActsAtSettle : Prop :=
  ∀ (s : State) (probe : Signature),
    ((s.matchOn = false ∨ s.active = none) → s.matchSettled probe = s)
      ∧ ∀ l : Fin 8, s.matchOn = true → s.active = some l →
        ((s.lesson l).st = .opened ∨ (s.lesson l).st = .committing) →
        (∀ (p : Nat) (i : Fin 64), s.scan l probe = some p → (s.lesson l).order[p]? = some i →
            s.matchSettled probe = (s.stepped l p i).setFlag .recalled)
          ∧ (s.scan l probe = none →
            s.matchSettled probe = (s.stageFollowing .live).setFlag .unmatched)

/-- A settle event runs the matcher on the signature it computed: with the enable off or no active lesson every
cursor and every view stands; on a match the cursor is at it, its page is staged into the following views and RECALLED
is set; without one LIVE is staged, every cursor stands and UNMATCHED is set (R74 step 5, R93 to R95). The premise
that no order names record 0 is R32's; the signature at 90 and 270 degrees is log 17's. -/
def Sys2Proof.Says.SettleEventRunsMatcher : Prop :=
  ∀ (s : State) (f : IntakeFrame) (c : Corners), s.settlesAt f c →
    (∀ l : Fin 8, (0 : Fin 64) ∉ (s.lesson l).order) →
    let sig := liveSignature f.ink (s.page 0).setup.rotation (s.page 0).setup.mirror
    ∃ t : State, exec (.intakeFrameEnd f) s = .next t
      ∧ ((s.matchOn = false ∨ s.active = none) →
        (∀ v : ViewId, t.view v = s.view v) ∧ ∀ m : Fin 8, (t.lesson m).cursor = (s.lesson m).cursor)
      ∧ ∀ l : Fin 8, s.matchOn = true → s.active = some l →
        ((s.lesson l).st = .opened ∨ (s.lesson l).st = .committing) →
        (∀ (p : Nat) (i : Fin 64), s.scan l sig = some p → (s.lesson l).order[p]? = some i →
            (∀ m : Fin 8, (t.lesson m).cursor = if m = l then some p else (s.lesson m).cursor)
              ∧ (∀ v : ViewId, (t.view v).staged.sel =
                if (s.view v).staged.follow then .page ⟨i, (s.page i).gen⟩ else (s.view v).staged.sel)
              ∧ t.hasFlag .recalled = true)
          ∧ (s.scan l sig = none →
            (∀ m : Fin 8, (t.lesson m).cursor = (s.lesson m).cursor)
              ∧ (∀ v : ViewId, (t.view v).staged.sel =
                if (s.view v).staged.follow then .live else (s.view v).staged.sel)
              ∧ t.hasFlag .unmatched = true)

/-- MATCH.SETUP: its checks in order and its effect (R100). -/
def Obligations.MatchSetupWritesSettings : Prop :=
  ∀ (s : State) (lvl : Level) (enable : Option (Code Bool)) (tolerance : Option Nat),
    exec (.matchSetup lvl ⟨enable, tolerance⟩) s =
      if enable = none ∧ tolerance = none then answers s .argument .empty
      else if enable = some .other ∨ (∃ n, tolerance = some n ∧ 3 < n) then answers s .range .empty
      else if lvl = .presenter then answers s .locked .empty
      else
        answers
          { s with
            matchOn := match enable with | some (.val b) => b | _ => s.matchOn
            tolerance := tolerance.getD s.tolerance }
          .ok .empty

/-- MATCH.TRY reports a scan and changes nothing (R101). -/
def Sys2Proof.Says.MatchTryReportsScan : Prop :=
  ∀ (s : State) (l : Fin 8) (probe : Signature),
    ((s.lesson l).st = .opened ∨ (s.lesson l).st = .committing) →
    let reply : TryReply :=
      { probe := probe
        tolerance := s.tolerance
        enable := s.matchOn
        hit := (s.scan l probe).map fun p =>
          { position := p
            handle := ⟨s.entryAt l p, (s.page (s.entryAt l p)).gen⟩
            mismatches :=
              match (s.page (s.entryAt l p)).setup.signature with
              | some sig => mismatches sig (s.page (s.entryAt l p)).setup.sigMask probe
              | none => 0 }
        agreements := (s.lesson l).order.countP fun i => s.agrees probe i }
    exec (.matchTry (some (l.val + 1)) (some (probe.toList.map BitVec.toNat))) s = answers s .ok (.tried reply)
      ∧ (s.active = some l →
        exec (.matchTry none (some (probe.toList.map BitVec.toNat))) s = answers s .ok (.tried reply))
      ∧ (s.pfd.liveSig = some probe →
        exec (.matchTry (some (l.val + 1)) none) s = answers s .ok (.tried reply)
          ∧ (s.active = some l → exec (.matchTry none none) s = answers s .ok (.tried reply)))
      ∧ (s.pfd.liveSig = none → exec (.matchTry (some (l.val + 1)) none) s = answers s .state .empty)

/-- The refusals of MATCH.TRY, in order: a probe of another length than 16 nibbles ARGUMENT, a nibble above 15 RANGE, a
lesson number outside 1..8 RANGE, no active lesson or an ABSENT or LOADING lesson STATE, and without a probe an absent live
signature STATE (R101). -/
def Sys2Proof.Says.MatchTryRefusals : Prop :=
  ∀ s : State,
    (∀ (lesson : Option Nat) (nibbles : List Nat),
        (nibbles.length ≠ 16 → exec (.matchTry lesson (some nibbles)) s = answers s .argument .empty)
          ∧ (nibbles.length = 16 → (∃ n ∈ nibbles, 15 < n) →
            exec (.matchTry lesson (some nibbles)) s = answers s .range .empty))
      ∧ (∀ probe : Option Signature,
        (∀ n : Nat, (n < 1 ∨ 8 < n) →
            exec (.matchTry (some n) (probe.map fun p => p.toList.map BitVec.toNat)) s = answers s .range .empty)
          ∧ (s.active = none →
            exec (.matchTry none (probe.map fun p => p.toList.map BitVec.toNat)) s = answers s .state .empty)
          ∧ ∀ l : Fin 8, ((s.lesson l).st = .absent ∨ (s.lesson l).st = .loading) →
            exec (.matchTry (some (l.val + 1)) (probe.map fun p => p.toList.map BitVec.toNat)) s =
              answers s .state .empty)
      ∧ (s.pfd.liveSig = none → exec (.matchTry none none) s = answers s .state .empty)

/-! ### Detail Engine (R102 to R114) -/

/-- The detail entry of an applied zoom, and the applied zooms each entry covers (R105). -/
def Sys2Proof.Says.DetailEntryOfZoom : Prop :=
  (∀ z : Nat, 256 ≤ z → z ≤ 2048 →
      detailEntry z = if (z - 256) / 56 = 32 then 31 else (z - 256) / 56)
    ∧ (∀ k z : Nat, k ≤ 31 → 256 + 56 * k ≤ z → z ≤ 311 + 56 * k → detailEntry z = k)
    ∧ detailEntry 2048 = 31

/-- The strength of a band: PLAIN is 0; otherwise the base times the mode's factor over 8, the offset added,
held to 0..255 (R104, R107). -/
def Sys2Proof.Says.BandStrength : Prop :=
  ∀ (base : Nat) (offset : Int),
    strength base .plain offset = 0
      ∧ ∀ (m : PageMode) (factor : Nat),
        (m, factor) ∈ [(PageMode.text, 8), (.fineLine, 12), (.photo, 3), (.chart, 6), (.invert, 8)] →
        (strength base m offset : Int) = max 0 (min 255 (((base * factor / 8 : Nat) : Int) + offset))

/-- Band b of an enhanced frame that shows record i by detail entry k: the override where it is not INHERIT and the
page mode otherwise; strength and noise floor from the entry and the light level's offset, none added without one;
INVERT inverted (R103, R106, R107, R109). -/
def Sys2Proof.Machine.State.bandShown (s : State) (i : Fin 64) (light : Option (Fin 16)) (k : Fin 32) (b : Fin 12) :
    Band :=
  let m := match (s.page i).setup.overrides[b] with
    | some o => o
    | none => (s.page i).setup.pageMode
  { mode := some m
    strength := strength s.dte.table[k].base.toNat m
      (match light with | some l => s.dte.light[l] | none => 0)
    floor := if m = .plain then 0 else s.dte.table[k].floor.toNat
    inverted := decide (m = .invert) }

/-- The band set of an enhanced frame: its kind, the record whose setup decides the modes, the applied zoom and its
entry, in flight; the light level of the latest measures for the live page, and that of its slot for a PAGE still, none
while no frame has been measured; and the bands that these give (R106, R108, R109). -/
def Sys2Proof.Says.EnhancedBands : Prop :=
  ∀ (s : State) (kind : SourceKind) (h : Handle) (z : Nat) (k : Fin 32),
    (kind = .livePage ∨ kind = .pageStill) → detailEntry z = k.val →
    (∀ (light : Option (Fin 16)) (b : Fin 12),
        (s.frameBands kind (some h) light z)[b] = s.bandShown h.idx light k b)
      ∧ ∀ slot : Option (Fin 24),
        let light := if kind = .livePage then s.pfd.latest.map fun m => m.light
          else slot.map fun j => (s.slot j).light
        s.bandSetOf kind (some h) slot z =
          { kind := kind, record := some h, zoom := z, entry := k.val, light := light, inFlight := true
            bands := Vector.ofFn fun b => s.bandShown h.idx light k b }

/-- Band b has the page rows from 4096 b / 12 up to but not including 4096 (b + 1) / 12, so that each row lies in one
band; of those a pan window of zoom z about row y shows the rows within half its height of y (R103, R125). -/
def Sys2Proof.Says.BandsOfThePage : Prop :=
  (∀ b row : Nat, (bandOfRow row = b ↔ 4096 * b ≤ 12 * row ∧ 12 * row < 4096 * (b + 1))
      ∧ (bandOfRow row = b ↔ bandTop b ≤ row ∧ row < bandTop (b + 1)))
    ∧ (∀ row : Nat, row < 4096 → bandOfRow row < 12)
    ∧ ∀ b z y row : Nat,
      ((bandRows b z y).top ≤ row ∧ row < (bandRows b z y).bottom) ↔
        (bandOfRow row = b ∧ y ≤ row + halfSize z ∧ row < y + halfSize z)

/-- What an enhancement does, in the order it does it: in every band the window crosses, by band number, the
inversion of an inverted band and then the sharpening of a strength above 0; an inverted tone is the greatest less the
tone; a contrast at or below the noise floor is left, one above it is raised in proportion to the strength, and a floor
of 255 leaves every one; rows outside the band are left (R104, R110). By how much a step of strength raises it is a free
value (log 36). -/
def Sys2Proof.Says.EnhancementActs : Prop :=
  (∀ (bands : Vector Band 12) (z y : Nat),
      bandActs bands z y =
        ((List.finRange 12).filter fun b =>
          decide ((bandRows b.val z y).top < (bandRows b.val z y).bottom)).flatMap fun b =>
            (bands[b].acts (bandRows b.val z y)))
    ∧ (∀ (x : Band) (rows : Strip),
      x.acts rows =
        match x.inverted, decide (x.strength = 0) with
        | false, true => []
        | true, true => [.invert rows]
        | false, false => [.sharpen rows x.strength x.floor]
        | true, false => [.invert rows, .sharpen rows x.strength x.floor])
    ∧ (∀ (rows : Strip) (strength floor row greatest tone : Nat) (contrast : Byte),
      (rows.top ≤ row ∧ row < rows.bottom →
        (BandAct.invert rows).tone row greatest tone = greatest - tone
          ∧ (BandAct.sharpen rows strength floor).contrast row contrast =
            sharpenedContrast strength floor contrast)
      ∧ (¬(rows.top ≤ row ∧ row < rows.bottom) →
        (BandAct.invert rows).tone row greatest tone = tone
          ∧ (BandAct.sharpen rows strength floor).contrast row contrast = contrast.toNat))
    ∧ ∀ (floor : Nat) (contrast : Byte),
      (contrast.toNat ≤ floor → ∀ strength : Nat, sharpenedContrast strength floor contrast = contrast.toNat)
        ∧ (floor < contrast.toNat → ∃ step : Nat, 0 < step
          ∧ ∀ strength : Nat, sharpenedContrast strength floor contrast = contrast.toNat + strength * step)
        ∧ ∀ strength : Nat, sharpenedContrast strength 255 contrast = contrast.toNat

/-- A COMPOSED_STILL, RAW or BLANK frame is not enhanced: no mode, strength 0, noise floor 0, none inverted,
and no record or light level, beside its kind, applied zoom and entry (R108, R109). -/
def Sys2Proof.Says.UnenhancedBands : Prop :=
  ∀ (s : State) (kind : SourceKind) (record : Option Handle) (slot : Option (Fin 24)) (z : Nat),
    (kind = .composedStill ∨ kind = .raw ∨ kind = .blank) →
    s.bandSetOf kind record slot z =
      { kind := kind, record := none, zoom := z, entry := detailEntry z, light := none, inFlight := true
        bands := Vector.replicate 12 { mode := none, strength := 0, floor := 0, inverted := false } }

/-- DETAIL.TABLE: its checks in order, and its effect on every entry (R111). -/
def Sys2Proof.Says.DetailTableWrites : Prop :=
  ∀ (s : State) (lvl : Level) (start count : Nat) (entries : List DetailEntry),
    exec (.detailTable lvl ⟨start, count, entries⟩) s =
      if count < 1 ∨ 29 < count then answers s .range .empty
      else if entries.length ≠ count then answers s .argument .empty
      else if 31 < start ∨ 31 < start + count - 1 then answers s .range .empty
      else if lvl = .presenter then answers s .locked .empty
      else
        answers
          { s with
            dte := { s.dte with
              table := Vector.ofFn fun k =>
                if start ≤ k.val then (entries[k.val - start]?).getD s.dte.table[k] else s.dte.table[k] } }
          .ok (.nextIndex (start + count))

/-- DETAIL.LIGHT: its checks in order, and its effect on every entry (R112). -/
def Sys2Proof.Says.DetailLightWrites : Prop :=
  ∀ (s : State) (lvl : Level) (start count : Nat) (offsets : List Int),
    exec (.detailLight lvl ⟨start, count, offsets⟩) s =
      if count < 1 ∨ 16 < count then answers s .range .empty
      else if offsets.length ≠ count then answers s .argument .empty
      else if 15 < start ∨ 15 < start + count - 1 ∨ (∃ o ∈ offsets, o < -64 ∨ 63 < o) then
        answers s .range .empty
      else if lvl = .presenter then answers s .locked .empty
      else
        answers
          { s with
            dte := { s.dte with
              light := Vector.ofFn fun k =>
                if start ≤ k.val then (offsets[k.val - start]?).getD s.dte.light[k] else s.dte.light[k] } }
          .ok (.nextIndex (start + count))

/-- The lowest-numbered view of a set, where the set is not empty (R116). -/
def Sys2Proof.Machine.lowestIn (vs : ViewSet) (v : ViewId) : Prop :=
  v.inSet vs = true ∧ vs.toNat < 8 ∧ ∀ w : ViewId, w.num < v.num → w.inSet vs = false

/-- DETAIL.READ returns the band set of the lowest view of its set, or both tables; an empty set is TARGET
(R113, R114). -/
def Sys2Proof.Says.DetailReadReturns : Prop :=
  ∀ s : State,
    exec .detailReadTables s = answers s .ok (.tables s.dte.table s.dte.light)
      ∧ (∀ (vs : ViewSet) (v : ViewId), lowestIn vs v →
        exec (.detailReadBandSet vs) s = answers s .ok (.bandSet (s.dte.bandSets.get v)))
      ∧ exec (.detailReadBandSet 0) s = answers s .target .empty

/-! ### Lens and lamp bus (R168 to R175) -/

/-- The arbiter on an idle bus: the only waiting request goes, or of two the one the turn names; the turn then
names the other requester (R172). -/
def Sys2Proof.Says.ArbiterTakesTurns : Prop :=
  ∀ x : Lens,
    (x.bus ≠ .idle → x.arbitrate = x)
      ∧ (x.bus = .idle → x.auto = none → x.bridge = none → x.arbitrate = x)
      ∧ (x.bus = .idle → x.auto.isSome → (x.bridge = none ∨ x.turn = .auto) →
        x.arbitrate =
          { x with bus := .autoOnBus, turn := .bridge,
                   carried := x.auto.map fun r => ⟨r.transaction, x.rate⟩ })
      ∧ ∀ r : BridgeReq, x.bus = .idle → x.bridge = some r → (x.auto = none ∨ x.turn = .bridge) →
        x.arbitrate =
          { x with bus := .bridgeOnBus, turn := .auto, carried := some ⟨r.transaction, x.rate⟩,
                   bridge := some { r with onBus := true } }

/-- LENS.SETUP: its checks in order, and its effect; while auto-lamp is off the lamp counters are 0 (R170,
R82). -/
def Sys2Proof.Says.LensSetupWritesItems : Prop :=
  ∀ (s : State) (lvl : Level) (lensAddr lampAddr : Option Nat) (autoLamp autoFocus : Option (Code Bool))
    (rate : Option (Code BusRate)),
    let lens := match lensAddr with | some n => BitVec.ofNat 7 n | none => s.lens.lensAddr
    let lamp := match lampAddr with | some n => BitVec.ofNat 7 n | none => s.lens.lampAddr
    let lampOn := match autoLamp with | some (.val b) => b | _ => s.lens.autoLamp
    exec (.lensSetup lvl ⟨lensAddr, lampAddr, autoLamp, autoFocus, rate⟩) s =
      if lensAddr = none ∧ lampAddr = none ∧ autoLamp = none ∧ autoFocus = none ∧ rate = none then
        answers s .argument .empty
      else if (∃ n, lensAddr = some n ∧ 0x7F < n) ∨ (∃ n, lampAddr = some n ∧ 0x7F < n)
          ∨ autoLamp = some .other ∨ autoFocus = some .other ∨ rate = some .other then
        answers s .range .empty
      else if lens = lamp then answers s .range .empty
      else if lvl = .presenter then answers s .locked .empty
      else
        answers
          { s with
            lens := { s.lens with
              lensAddr := lens
              lampAddr := lamp
              autoLamp := lampOn
              autoFocus := match autoFocus with | some (.val b) => b | _ => s.lens.autoFocus
              rate := match rate with | some (.val r) => r | _ => s.lens.rate }
            pfd := if lampOn then s.pfd else { s.pfd with darkCount := 0, brightCount := 0 } }
          .ok .empty

/-- The address of a device (R169). -/
def Sys2Proof.Machine.Lens.address (x : Lens) : Device → BitVec 7
  | .lens => x.lensAddr
  | .lamp => x.lampAddr

/-- BRIDGE.WRITE and BRIDGE.READ refused, in the order of the checks: a write without a data byte or with more than 8,
or a read payload of the wrong length, is ARGUMENT; a device other than the two, or a count outside 1..8, RANGE; a level
below OWNER LOCKED (R174). -/
def Sys2Proof.Says.BridgeCommandsRefused : Prop :=
  ∀ (s : State) (lvl : Level) (reg : Byte),
    (∀ (device : Code Device) (data : List Byte),
      ((data = [] ∨ 8 < data.length) →
          exec (.bridgeWrite lvl ⟨device, reg, data⟩) s = answers s .argument .empty)
        ∧ (1 ≤ data.length → data.length ≤ 8 →
          (device = .other → exec (.bridgeWrite lvl ⟨device, reg, data⟩) s = answers s .range .empty)
            ∧ (device ≠ .other → lvl = .presenter →
              exec (.bridgeWrite lvl ⟨device, reg, data⟩) s = answers s .locked .empty)))
      ∧ exec (.bridgeRead lvl none) s = answers s .argument .empty
      ∧ ∀ (device : Code Device) (count : Nat),
        ((device = .other ∨ count < 1 ∨ 8 < count) →
            exec (.bridgeRead lvl (some ⟨device, reg, count⟩)) s = answers s .range .empty)
          ∧ (device ≠ .other → 1 ≤ count → count ≤ 8 → lvl = .presenter →
            exec (.bridgeRead lvl (some ⟨device, reg, count⟩)) s = answers s .locked .empty)

/-- BRIDGE.WRITE and BRIDGE.READ queue their request with the device's address as it stands and let the arbiter
act; outcome and buffer stand; a read payload of the wrong length is ARGUMENT (R174). -/
def Sys2Proof.Says.BridgeCommandsQueue : Prop :=
  ∀ (s : State) (lvl : Level) (device : Device) (reg : Byte), Level.owner.rank ≤ lvl.rank →
    (∀ data : List Byte, 1 ≤ data.length → data.length ≤ 8 →
      (s.lens.bridge = none →
        exec (.bridgeWrite lvl ⟨.val device, reg, data⟩) s =
          answers
            { s with
              lens :=
                { s.lens with
                  bridge := some ⟨.write data, device, s.lens.address device, reg, false⟩ }.arbitrate }
            .accepted .empty)
        ∧ (s.lens.bridge.isSome →
          exec (.bridgeWrite lvl ⟨.val device, reg, data⟩) s = answers s .busy .empty))
      ∧ exec (.bridgeRead lvl none) s = answers s .argument .empty
      ∧ ∀ count : Nat, 1 ≤ count → count ≤ 8 →
        (s.lens.bridge = none →
          exec (.bridgeRead lvl (some ⟨.val device, reg, count⟩)) s =
            answers
              { s with
                lens :=
                  { s.lens with
                    bridge := some ⟨.read count, device, s.lens.address device, reg, false⟩ }.arbitrate }
              .accepted .empty)
          ∧ (s.lens.bridge.isSome →
            exec (.bridgeRead lvl (some ⟨.val device, reg, count⟩)) s = answers s .busy .empty)

/-- BRIDGE.RESULT returns the bridge's state and clears nothing (R175). -/
def Sys2Proof.Says.BridgeResultReturnsState : Prop :=
  ∀ s : State, exec .bridgeResult s =
    answers s .ok
      (.bridge
        { phase :=
            match s.lens.bridge with
            | none => .none
            | some r => if r.onBus then .onBus else .waiting
          outcome := s.lens.outcome
          buffer := s.lens.buffer
          valid := s.lens.valid
          lensAddr := s.lens.lensAddr
          lampAddr := s.lens.lampAddr
          rate := s.lens.rate
          autoLamp := s.lens.autoLamp
          autoFocus := s.lens.autoFocus
          bus := s.lens.bus
          turn := s.lens.turn })

/-- The transactions of the requests: LAMP_SET writes its level to register 0x00 of the lamp, FOCUS_START 0x01 to
register 0x10 and FOCUS_POLL reads one byte of register 0x11 of the lens device, each at the address its request
holds; the bridge's is as its command gave it (R81, R84, R85, R171, R174). -/
def Sys2Proof.Says.TransactionsOfRequests : Prop :=
  (∀ (level : Fin 16) (sync orphan : Bool) (addr : BitVec 7),
      (AutoReq.mk (.lampSet level sync) addr orphan).transaction =
        ⟨addr, 0x00, .write [BitVec.ofNat 8 level.val]⟩)
    ∧ (∀ (addr : BitVec 7) (orphan : Bool),
      (AutoReq.mk .focusStart addr orphan).transaction = ⟨addr, 0x10, .write [0x01]⟩
        ∧ (AutoReq.mk .focusPoll addr orphan).transaction = ⟨addr, 0x11, .read 1⟩)
    ∧ (∀ r : BridgeReq, r.transaction = ⟨r.addr, r.reg, r.kind⟩)
    ∧ ∀ (x : Lens) (k : AutoKind), x.bus ≠ .idle →
      x.queueAuto k =
        { x with auto := some ⟨k, (match k with | .lampSet _ _ => x.lampAddr | _ => x.lensAddr), false⟩ }

/-- What goes over the bus (R168): a write is a start, the address with the write direction, the register, the data
and a stop; a read repeats the start with the read direction and takes its bytes, all but the last acknowledged. At the
first byte the device does not acknowledge the part sends a stop, and where the clock is held low it stops there, at any
point after the start. That the bits of a byte cut in its middle are not shown is the model's choice (DESIGN CHOICE, log
37). -/
def Sys2Proof.Says.TransactionsOnTheBus : Prop :=
  (∀ (addr : BitVec 7) (reg : Byte) (bytes : List Byte) (data : Vector Byte 8) (n : Nat),
      let t : Transaction := ⟨addr, reg, .write bytes⟩
      t.acksNeeded = 2 + bytes.length
        ∧ t.events data = [.start, .address addr .write, .sent reg] ++ bytes.map BusEvent.sent ++ [.stop]
        ∧ (2 ≤ n → n < 2 + bytes.length →
          untilNack n (t.events data) =
            [.start, .address addr .write, .sent reg] ++ (bytes.take (n - 1)).map BusEvent.sent ++ [.stop])
        ∧ untilHeld n (t.events data) =
          [.start] ++ (([BusEvent.address addr .write, .sent reg] ++ bytes.map BusEvent.sent).take n) ++ [.stop])
    ∧ (∀ (addr : BitVec 7) (reg : Byte) (count : Fin 9) (data : Vector Byte 8),
      let t : Transaction := ⟨addr, reg, .read count.val⟩
      t.acksNeeded = 3
        ∧ t.events data =
          [.start, .address addr .write, .sent reg, .restart, .address addr .read]
            ++ (List.range count.val).map (fun i => .received (data.toList.getD i 0) (decide (i + 1 < count.val)))
            ++ [.stop]
        ∧ untilNack 2 (t.events data) =
          [.start, .address addr .write, .sent reg, .restart, .address addr .read, .stop]
        ∧ ∀ n : Nat, untilHeld n (t.events data) =
          [.start]
            ++ (([BusEvent.address addr .write, .sent reg, .restart, .address addr .read]
              ++ (List.range count.val).map
                fun i => BusEvent.received (data.toList.getD i 0) (decide (i + 1 < count.val))).take n)
            ++ [.stop])
    ∧ ∀ (t : Transaction) (data : Vector Byte 8) (n : Nat),
      (t.acksNeeded ≤ n → untilNack n (t.events data) = t.events data)
        ∧ untilNack 0 (t.events data) = [.start, .address t.addr .write, .stop]
        ∧ untilNack 1 (t.events data) = [.start, .address t.addr .write, .sent t.reg, .stop]

/-- The end of a bridge transaction, with ACK where the device acknowledged every byte it had to: its outcome, for a
read the buffer, BRIDGE_DONE, what went over the bus, and the arbiter (R168, R173). -/
def Sys2Proof.Says.BridgeTransactionEnds : Prop :=
  ∀ (s : State) (acked : Nat) (data : Vector Byte 8) (r : BridgeReq) (c : Carried),
    s.lens.bus = .bridgeOnBus → s.lens.bridge = some r → s.lens.carried = some c →
    let ack := decide (c.tx.acksNeeded ≤ acked)
    let lines := untilNack acked (c.tx.events data)
    ∃ x : Lens,
      exec (.lensTransactionEnd acked data) s =
          .next { s with
            lens := x.arbitrate
            link := { s.link with status := s.link.status ||| Flag.only .bridgeDone } }
        ∧ (∀ w, r.kind = .write w →
          x = { s.lens with bus := .idle, carried := none, lines := lines, bridge := none,
                            outcome := some ⟨ack, .write, r.device, r.reg, w.length⟩ })
        ∧ ∀ n, r.kind = .read n →
          x = { s.lens with bus := .idle, carried := none, lines := lines, bridge := none,
                            outcome := some ⟨ack, .read, r.device, r.reg, n⟩,
                            buffer := Vector.ofFn fun i => if ack ∧ i.val < n then data[i] else 0,
                            valid := if ack then n else 0 }

/-- The end of an AUTO transaction: the bus becomes IDLE and the arbiter acts; the lamp takes the level written, or a sync
is offered again; a focus run polls on, or ends with its outcome and FOCUS_DONE; a cancelled run takes nothing; each NACK
raises LENS_FAULT, and nothing else changes (R83 to R86, R173). -/
def Obligations.AutoTransactionEnds : Prop :=
  ∀ (s : State) (acked : Nat) (data : Vector Byte 8) (r : AutoReq) (c : Carried), s.lens.bus = .autoOnBus →
    s.lens.auto = some r → s.lens.carried = some c →
    let ack := decide (c.tx.acksNeeded ≤ acked)
    let old := s.link.status
    let ends := fun (pfd : Finder) (status : FlagSet) =>
      exec (.lensTransactionEnd acked data) s =
        .next { s with
          lens :=
            { s.lens with bus := .idle, carried := none, lines := untilNack acked (c.tx.events data),
                          auto := none }.arbitrate
          pfd := pfd
          link := { s.link with status := status } }
    (∀ level sync, r.kind = .lampSet level sync →
        (ack = true → ends { s.pfd with lamp := level } old)
          ∧ (ack = false →
            ends { s.pfd with syncPending := s.pfd.syncPending || sync } (old ||| Flag.only .lensFault)))
      ∧ ((r.kind = .focusStart ∨ r.kind = .focusPoll) →
        (r.orphan = true →
            (ack = true → ends s.pfd old) ∧ (ack = false → ends s.pfd (old ||| Flag.only .lensFault)))
          ∧ (r.orphan = false → ack = false →
            ends { s.pfd with run := .idle, outcome := .nack }
              (old ||| Flag.only .focusDone ||| Flag.only .lensFault)))
      ∧ (r.kind = .focusStart → r.orphan = false → ack = true → ends { s.pfd with run := .polling } old)
      ∧ (r.kind = .focusPoll → r.orphan = false → ack = true →
        (data[0].getLsbD 1 = true →
            ends { s.pfd with run := .idle, outcome := .failed } (old ||| Flag.only .focusDone))
          ∧ (data[0].getLsbD 1 = false → data[0].getLsbD 0 = false →
            ends { s.pfd with run := .idle, outcome := .done } (old ||| Flag.only .focusDone))
          ∧ (data[0].getLsbD 1 = false → data[0].getLsbD 0 = true →
            (s.pfd.busyPolls + 1 < 30 → ends { s.pfd with busyPolls := s.pfd.busyPolls + 1 } old)
              ∧ (s.pfd.busyPolls + 1 = 30 →
                ends { s.pfd with busyPolls := 30, run := .idle, outcome := .timeout }
                  (old ||| Flag.only .focusDone))))

/-- CLOCK_HOLD_TIMEOUT with a transaction on the bus: the bus becomes IDLE and the arbiter acts, and the transaction's
requester takes a NACK: LENS_FAULT for an AUTO request, with a sync write offered again and a focus run ended unless it
was cancelled; BRIDGE_DONE and the outcome for a bridge request, a read delivering no bytes; nothing else for one that
drains (R83, R84, R85, R86, R168, R169, R172, R173). How far the transaction had come is a free value, with a counter of
the model's own (log 38); that the bits of a byte cut in its middle are not shown is log 37's choice. -/
def Sys2Proof.Says.HeldClockEnds : Prop :=
  ∀ (s : State) (c : Carried), s.lens.carried = some c →
    ∃ (n : Nat) (given : Vector Byte 8),
      let x := { s.lens with bus := .idle, carried := none, lines := untilHeld n (c.tx.events given),
                             heldClocks := s.lens.heldClocks + 1 }
      (s.lens.bus = .draining → exec .clockHoldTimeout s = .next { s with lens := x.arbitrate })
        ∧ (∀ r : AutoReq, s.lens.bus = .autoOnBus → s.lens.auto = some r →
          (∀ level sync, r.kind = .lampSet level sync →
              exec .clockHoldTimeout s =
                .next { s with
                  lens := { x with auto := none }.arbitrate
                  pfd := { s.pfd with syncPending := s.pfd.syncPending || sync }
                  link := { s.link with status := s.link.status ||| Flag.only .lensFault } })
            ∧ ((r.kind = .focusStart ∨ r.kind = .focusPoll) →
              (r.orphan = true →
                  exec .clockHoldTimeout s =
                    .next { s with
                      lens := { x with auto := none }.arbitrate
                      link := { s.link with status := s.link.status ||| Flag.only .lensFault } })
                ∧ (r.orphan = false →
                  exec .clockHoldTimeout s =
                    .next { s with
                      lens := { x with auto := none }.arbitrate
                      pfd := { s.pfd with run := .idle, outcome := .nack }
                      link := { s.link with
                        status := s.link.status ||| Flag.only .focusDone ||| Flag.only .lensFault } })))
        ∧ ∀ r : BridgeReq, s.lens.bus = .bridgeOnBus → s.lens.bridge = some r →
          let done := fun y : Lens =>
            ({ s with
                lens := y.arbitrate
                link := { s.link with status := s.link.status ||| Flag.only .bridgeDone } } : State)
          (∀ w, r.kind = .write w →
              exec .clockHoldTimeout s =
                .next (done { x with
                  bridge := none, outcome := some ⟨false, .write, r.device, r.reg, w.length⟩ }))
            ∧ ∀ count, r.kind = .read count →
              exec .clockHoldTimeout s =
                .next (done { x with
                  bridge := none, outcome := some ⟨false, .read, r.device, r.reg, count⟩
                  buffer := .replicate 8 0, valid := 0 })

/-- With no transaction on the bus neither its end nor a held clock changes anything (the model's choice, log 4); the
end of a transaction that drains after a soft reset gives nothing but the idle bus (R169). -/
def Sys2Proof.Says.HeldClockAndDraining : Prop :=
  ∀ (s : State) (n : Nat) (data : Vector Byte 8),
    (s.lens.carried = none →
        exec .clockHoldTimeout s = .next s ∧ exec (.lensTransactionEnd n data) s = .next s)
      ∧ ∀ c : Carried, s.lens.carried = some c → s.lens.bus = .draining →
        exec (.lensTransactionEnd n data) s =
          .next { s with
            lens :=
              { s.lens with bus := .idle, carried := none, lines := untilNack n (c.tx.events data) }.arbitrate }

/-! ### Views (R115 to R134) -/

/-- The views with a change made to those of a set. -/
def Sys2Proof.Machine.onViews (t : Trio ViewCtx) (vs : ViewSet) (f : ViewCtx → ViewCtx) : Trio ViewCtx where
  proj := if ViewId.proj.inSet vs then f t.proj else t.proj
  strm := if ViewId.strm.inSet vs then f t.strm else t.strm
  panel := if ViewId.panel.inSet vs then f t.panel else t.panel

/-- What the checks of a view set answer: a number outside 1..3 is RANGE, an empty set is TARGET, and otherwise
the command goes on (R116). -/
def Sys2Proof.Machine.forSet (s : State) (vs : ViewSet) (go : Host.Outcome State Fault Refusal) :
    Host.Outcome State Fault Refusal :=
  if 8 ≤ vs.toNat then answers s .range .empty else if vs = 0 then answers s .target .empty else go

/-- VIEW.ZOOM and VIEW.PAN: their checks in order and their effect (R129, R130). -/
def Sys2Proof.Says.ViewZoomAndPan : Prop :=
  (∀ (s : State) (vs : ViewSet) (target rate : Option Nat),
      exec (.viewZoom vs ⟨target, rate⟩) s =
        if target = none ∧ rate = none then answers s .argument .empty
        else if (∃ n, target = some n ∧ (n < 256 ∨ 2048 < n)) ∨ (∃ n, rate = some n ∧ (n < 1 ∨ 64 < n)) then
          answers s .range .empty
        else forSet s vs
          (answers
            { s with
              views := onViews s.views vs fun c =>
                { c with staged := { c.staged with
                    target := target.getD c.staged.target, rate := rate.getD c.staged.rate } } }
            .ok .empty))
    ∧ ∀ (s : State) (vs : ViewSet) (x y : Nat),
      exec (.viewPan vs x y) s =
        if 4095 < x ∨ 4095 < y then answers s .range .empty
        else forSet s vs
          (answers
            { s with
              views := onViews s.views vs fun c => { c with staged := { c.staged with panX := x, panY := y } } }
            .ok .empty)

/-- VIEW.ROUTE: its checks in order and its effect (R131). -/
def Sys2Proof.Says.ViewRouteStages : Prop :=
  ∀ (s : State) (lvl : Level) (vs : ViewSet) (route : Code Route),
    exec (.viewRoute lvl vs route) s =
      match route with
      | .other => answers s .range .empty
      | .val r =>
        forSet s vs
          (if r = .mirror ∧ ViewId.proj.inSet vs then answers s .range .empty
          else if lvl = .presenter then answers s .locked .empty
          else
            answers
              { s with views := onViews s.views vs fun c => { c with staged := { c.staged with route := r } } }
              .ok .empty)

/-- VIEW.MODE: its checks in order and its effect (R132). -/
def Sys2Proof.Says.ViewModeWrites : Prop :=
  ∀ (s : State) (vs : ViewSet) (mode : Option (Code ApplyMode)) (steady marks follow : Option (Code Bool)),
    exec (.viewMode vs ⟨mode, steady, marks, follow⟩) s =
      if mode = none ∧ steady = none ∧ marks = none ∧ follow = none then answers s .argument .empty
      else if mode = some .other ∨ steady = some .other ∨ marks = some .other ∨ follow = some .other then
        answers s .range .empty
      else forSet s vs
        (answers
          { s with
            views := onViews s.views vs fun c =>
              { c with
                applyMode := match mode with | some (.val m) => m | _ => c.applyMode
                armed := match mode with | some (.val m) => decide (m = c.applyMode) && c.armed | _ => c.armed
                staged := { c.staged with
                  steady := match steady with | some (.val b) => b | _ => c.staged.steady
                  marksShown := match marks with | some (.val b) => b | _ => c.staged.marksShown
                  follow := match follow with | some (.val b) => b | _ => c.staged.follow } } }
          .ok .empty)

/-- How many views of a set have a field that names record i. -/
def Sys2Proof.Machine.State.naming (s : State) (vs : ViewSet) (field : ViewCtx → Option (Fin 64))
    (i : Fin 64) : Nat :=
  (viewsOf vs).countP fun v => field (s.view v) = some i

/-- VIEW.SELECT and VIEW.FALLBACK write the field of every view of the set and no other, and the selection refs
move with it (R119, R127, R128). The premise is R24's: the refs count at least the fields replaced. -/
def Sys2Proof.Says.ViewSelectAndFallback : Prop :=
  ∀ (s : State) (lvl : Level) (vs : ViewSet), vs ≠ 0 → vs.toNat < 8 →
    (∀ (sel : Selection) (kind : SelectKind) (handle : Option PageRef) (follow : Option Bool),
      ((kind = .live ∧ handle = none ∧ sel = .live) ∨ (kind = .cycle ∧ handle = none ∧ sel = .cycle)
        ∨ (kind = .blank ∧ handle = none ∧ sel = .blank)
        ∨ ∃ i : Fin 64, i ≠ 0 ∧ (s.page i).st = .opened ∧ kind = .page ∧ handle = some (s.refTo i)
          ∧ sel = .page ⟨i, (s.page i).gen⟩) →
      (∀ i : Fin 64, s.naming vs (fun c => c.staged.sel.page?) i ≤ (s.page i).selRefs) →
      ∃ t : State,
        exec (.viewSelect vs ⟨.val kind, handle, follow.map .val⟩) s = answers t .ok .empty
          ∧ t.views = onViews s.views vs (fun c =>
            { c with staged := { c.staged with sel := sel, follow := follow.getD c.staged.follow } })
          ∧ (∀ i : Fin 64, t.page i = { s.page i with
              selRefs := (s.page i).selRefs - s.naming vs (fun c => c.staged.sel.page?) i
                + if sel.page? = some i then (viewsOf vs).length else 0 })
          ∧ t = { s with records := t.records, views := t.views })
      ∧ ∀ (f : Fallback) (kind : FallbackKind) (handle : Option PageRef), Level.owner.rank ≤ lvl.rank →
        ((kind = .blank ∧ handle = none ∧ f = .blank) ∨ (kind = .last ∧ handle = none ∧ f = .last)
          ∨ ∃ i : Fin 64, i ≠ 0 ∧ (s.page i).st = .opened ∧ kind = .page ∧ handle = some (s.refTo i)
            ∧ f = .page ⟨i, (s.page i).gen⟩) →
        (∀ i : Fin 64, s.naming vs (fun c => c.fallback.page?) i ≤ (s.page i).selRefs) →
        ∃ t : State,
          exec (.viewFallback lvl vs ⟨.val kind, handle⟩) s = answers t .ok .empty
            ∧ t.views = onViews s.views vs (fun c => { c with fallback := f })
            ∧ (∀ i : Fin 64, t.page i = { s.page i with
                selRefs := (s.page i).selRefs - s.naming vs (fun c => c.fallback.page?) i
                  + if f.page? = some i then (viewsOf vs).length else 0 })
            ∧ t = { s with records := t.records, views := t.views }

/-- A PAGE selection by an index above 63 or of record 0 is RANGE, and by a handle that is not current STALE
(R117). -/
def Sys2Proof.Says.PageSelectionsAreChecked : Prop :=
  ∀ (s : State) (vs : ViewSet) (h : PageRef), vs ≠ 0 → vs.toNat < 8 →
    ((63 < h.idx.toNat ∨ h.idx = 0) →
        exec (.viewSelect vs ⟨.val .page, some h, none⟩) s = answers s .range .empty)
      ∧ ∀ i : Fin 64, h.idx.toNat = i.val → i ≠ 0 →
        (h.gen ≠ (s.page i).gen ∨ (s.page i).st ≠ .opened) →
        exec (.viewSelect vs ⟨.val .page, some h, none⟩) s = answers s .stale .empty

/-- R117's checks of the page a handle names, where there is a handle. -/
def Sys2Proof.Machine.State.handleRefusal (s : State) : Option PageRef → Option ResultCode
  | none => none
  | some h =>
    let r := s.page (recIdx h.idx.toNat)
    if 63 < h.idx.toNat ∨ h.idx = 0 then some .range
    else if h.gen ≠ r.gen ∨ r.st ≠ .opened then some .stale
    else none

/-- The checks of a selection or fallback of a view set, the code of the first that fails: `named` says that the payload's
codes name values, and `page` that its kind is PAGE (R128, R116, R117). -/
def Sys2Proof.Machine.State.selectionRefusal (s : State) (vs : ViewSet) (named page : Bool)
    (handle : Option PageRef) : Option ResultCode :=
  if named = false then some .range
  else if page ≠ handle.isSome then some .argument
  else if 8 ≤ vs.toNat then some .range
  else if vs = 0 then some .target
  else s.handleRefusal handle

/-- The refusals of VIEW.SELECT and VIEW.FALLBACK, in order: a kind or a follow value outside its values RANGE, a PAGE
without a handle or another kind with one ARGUMENT, the view set, the handle RANGE or STALE, and then, of VIEW.FALLBACK
alone, a level below OWNER LOCKED (R116, R117, R128). -/
def Sys2Proof.Says.SelectionsRefused : Prop :=
  ∀ (s : State) (lvl : Level) (vs : ViewSet) (handle : Option PageRef),
    (∀ (kind : Code SelectKind) (follow : Option (Code Bool)) (c : ResultCode),
      s.selectionRefusal vs (decide (kind ≠ .other ∧ follow ≠ some .other)) (decide (kind = .val .page)) handle
          = some c →
        exec (.viewSelect vs ⟨kind, handle, follow⟩) s = answers s c .empty)
      ∧ ∀ kind : Code FallbackKind,
        (∀ c : ResultCode,
          s.selectionRefusal vs (decide (kind ≠ .other)) (decide (kind = .val .page)) handle = some c →
            exec (.viewFallback lvl vs ⟨kind, handle⟩) s = answers s c .empty)
          ∧ (s.selectionRefusal vs (decide (kind ≠ .other)) (decide (kind = .val .page)) handle = none →
            lvl = .presenter →
            exec (.viewFallback lvl vs ⟨kind, handle⟩) s = answers s .locked .empty)

/-- TAKE_EDGE and VIEW.TAKE arm the AT_TAKE views and no other (R121, R133). -/
def Sys2Proof.Says.TakesArmViews : Prop :=
  ∀ s : State,
    exec .takeEdge s =
        .next { s with views := onViews s.views 7 fun c =>
          { c with armed := c.armed || decide (c.applyMode = .atTake) } }
      ∧ ∀ vs : ViewSet,
        exec (.viewTake vs) s =
          forSet s vs
            (if ∀ v ∈ viewsOf vs, (s.view v).applyMode ≠ .atTake then answers s .state .empty
            else
              answers
                { s with views := onViews s.views vs fun c =>
                  { c with armed := c.armed || decide (c.applyMode = .atTake) } }
                .ok (.armed ((viewsOf vs).filter fun v => (s.view v).applyMode = .atTake)))

/-- The zoom preset an apply reads: that of the record a new PAGE selection names, where the selection before
did not name it (R122). -/
def Sys2Proof.Machine.State.presetAtApply (s : State) (c : ViewCtx) : Option Preset :=
  match c.staged.sel with
  | .page h => if c.current.sel.page? = some h.idx then none else (s.page h.idx).setup.preset
  | _ => none

/-- The apply: the staged half is copied, with a zoom preset read into both halves, the view is disarmed, no other view
changes, and the selection refs move from the record that was current to the one that is, and stand where both are the
same (R119, R120, R122). -/
def Sys2Proof.Says.ApplyCopiesStagedHalf : Prop :=
  ∀ (s : State) (v w : ViewId),
    let half := match s.presetAtApply (s.view v) with
      | some p => { (s.view v).staged with target := p.zoom, panX := p.x, panY := p.y }
      | none => (s.view v).staged
    (s.applyView v).view v = { s.view v with staged := half, current := half, armed := false }
      ∧ (w ≠ v → (s.applyView v).view w = s.view w)
      ∧ (∀ i : Fin 64, (s.applyView v).page i = { s.page i with
          selRefs :=
            if (s.view v).current.sel.page? = (s.view v).staged.sel.page? then (s.page i).selRefs
            else if (s.view v).current.sel.page? = some i then (s.page i).selRefs - 1
            else if (s.view v).staged.sel.page? = some i then (s.page i).selRefs + 1
            else (s.page i).selRefs })
      ∧ s.applyView v = { s with records := (s.applyView v).records, views := (s.applyView v).views }

/-- The ramp step (R123). -/
def Sys2Proof.Says.RampStep : Prop :=
  ∀ zoom target rate : Nat,
    (zoom = target → rampZoom zoom target rate = zoom)
      ∧ (zoom ≤ target + rate → target ≤ zoom + rate → rampZoom zoom target rate = target)
      ∧ (zoom + rate < target → rampZoom zoom target rate = zoom + rate)
      ∧ (target + rate < zoom → rampZoom zoom target rate = zoom - rate)

/-- The applied zoom and the window of a frame (R124, R125). -/
def Sys2Proof.Says.AppliedZoomAndCentre : Prop :=
  (∀ (zoom target phase : Nat) (steady : Bool),
      let r := zoom % 4
      (r = 0 → appliedZoom zoom target steady phase = zoom)
        ∧ (r ≠ 0 → (zoom ≠ target ∨ steady = true) → appliedZoom zoom target steady phase = zoom - r)
        ∧ (r ≠ 0 → zoom = target → steady = false → phase < r →
          appliedZoom zoom target steady phase = zoom - r + 4)
        ∧ (r ≠ 0 → zoom = target → steady = false → r ≤ phase →
          appliedZoom zoom target steady phase = zoom - r)
        ∧ (256 ≤ zoom → zoom ≤ 2048 → 256 ≤ appliedZoom zoom target steady phase
          ∧ appliedZoom zoom target steady phase ≤ 2048))
    ∧ ∀ z pan : Nat, 256 ≤ z → z ≤ 2048 →
      halfSize z = 524288 / z ∧ halfSize z ≤ appliedCoord pan z ∧ appliedCoord pan z + halfSize z ≤ 4096
        ∧ (z = 256 → appliedCoord pan z = 2048)
        ∧ (256 < z → appliedCoord pan z = max (halfSize z) (min pan (4095 - halfSize z)))

/-- The reads of a view set refuse a number that is no view set RANGE and an empty set TARGET (R113, R116). -/
def Sys2Proof.Says.ReadsCheckTheSet : Prop :=
  ∀ (s : State) (vs : ViewSet), ∀ c ∈ [Instr.viewRead vs, .portRead vs, .detailReadBandSet vs],
    (8 ≤ vs.toNat → exec c s = answers s .range .empty) ∧ (vs = 0 → exec c s = answers s .target .empty)

/-- VIEW.READ and PORT.READ return the lowest view or port of their set and change nothing (R134, R150). -/
def Sys2Proof.Says.ViewAndPortReads : Prop :=
  ∀ (s : State) (vs : ViewSet) (v : ViewId), lowestIn vs v →
    exec (.viewRead vs) s = answers s .ok (.view v (s.view v))
      ∧ exec (.portRead vs) s =
        answers s .ok
          (.port
            { port := v
              st := (s.port v).st
              rate := (s.port v).rate
              ended := (s.port v).ended
              abandoned := (s.port v).abandoned
              sink := if v = ViewId.strm then some ((s.port v).ready, (s.port v).stall) else none
              source := (s.port v).frame.map fun f => f.source
              cycle := (s.port v).cycle })

/-! ### Output ports and show cycles (R135 to R153) -/

/-- The ports with a change made to those of a set. -/
def Sys2Proof.Machine.onPorts (t : Trio PortCtx) (vs : ViewSet) (f : PortCtx → PortCtx) : Trio PortCtx where
  proj := if ViewId.proj.inSet vs then f t.proj else t.proj
  strm := if ViewId.strm.inSet vs then f t.strm else t.strm
  panel := if ViewId.panel.inSet vs then f t.panel else t.panel

/-- The frame rates a port can have (R147). -/
def Sys2Proof.Machine.rateRange : ViewId → Nat × Nat
  | .proj => (24, 60)
  | .strm => (15, 60)
  | .panel => (30, 30)

/-- PORT.START: its checks in order and its effect (R147). -/
def Sys2Proof.Says.PortStartRuns : Prop :=
  ∀ (s : State) (lvl : Level) (vs : ViewSet) (rate : Option Nat),
    exec (.portStart lvl vs rate) s =
      if ∃ n, rate = some n ∧ (n < 15 ∨ 60 < n) then answers s .range .empty
      else forSet s vs
        (if ∃ v ∈ viewsOf vs, ∃ n, rate = some n ∧ (n < (rateRange v).1 ∨ (rateRange v).2 < n) then
          answers s .range .empty
        else if ∃ v ∈ viewsOf vs, (s.port v).st ≠ .off then answers s .state .empty
        else if lvl = .presenter then answers s .locked .empty
        else
          answers
            { s with ports := onPorts s.ports vs fun p => { p with st := .running, rate := rate.getD p.rate } }
            .ok .empty)

/-- A port after an accepted stop (R148). -/
def Sys2Proof.Machine.PortCtx.stopped (p : PortCtx) : PortCtx :=
  if p.st = .running ∧ p.frame.isSome then { p with st := .stopping } else { p with st := .off, stall := 0 }

/-- An abort of every fill from a source: each slot is FREE with its blocks returned, its record has no fill pending,
FREEZE_ABORTED is set where there was one, and nothing else changes (R49, R60). The premise is R50's. -/
def Sys2Proof.Says.AbortEndsEveryFill : Prop :=
  ∀ (s : State) (src : FillSource), s.fillsAgree src →
    let hit := fun k : Fin 24 => decide ((s.slot k).st = .filling ∧ (s.slot k).source = some src)
    s.abortFills src =
      { s with
        slots := Vector.ofFn fun k => if hit k then (s.slot k).freed else s.slot k
        records := Vector.ofFn fun i =>
          if ∃ k : Fin 24, hit k = true ∧ (s.page i).fill = some k then { s.page i with fill := none } else s.page i
        freeBlocks := s.freeBlocks + (((List.finRange 24).filter hit).map fun k => (s.slot k).blocks).sum
        link := { s.link with
          status := if ∃ k : Fin 24, hit k = true then s.link.status ||| Flag.only .freezeAborted
            else s.link.status } }

/-- PORT.STOP: its checks in order, and its effect: a port with a frame in flight is STOPPING, another one is OFF at once,
and where PROJ is, its fills are aborted; nothing else changes (R116, R148, R60). What the abort does is
`AbortEndsEveryFill`. -/
def Sys2Proof.Says.PortStopStops : Prop :=
  ∀ (s : State) (lvl : Level) (vs : ViewSet),
    exec (.portStop lvl vs) s =
      forSet s vs
        (if ∃ v ∈ viewsOf vs, (s.port v).st = .off ∨ (s.port v).st = .stopping then answers s .state .empty
        else if lvl = .presenter then answers s .locked .empty
        else
          answers
            (if ViewId.proj.inSet vs = true ∧ s.ports.proj.stopped.st = .off then
              ({ s with ports := onPorts s.ports vs PortCtx.stopped } : State).abortFills .proj
            else { s with ports := onPorts s.ports vs PortCtx.stopped })
            .ok .empty)

/-- The frame values with their in-flight mark cleared (R126). -/
def Sys2Proof.Machine.ViewCtx.unmarked (c : ViewCtx) : ViewCtx :=
  { c with frame := c.frame.map fun f => { f with inFlight := false } }

/-- A port reset: a frame in flight is abandoned and counted, its holds released as at a frame end, and the in-flight
marks of its frame values and band set cleared with both tables kept; the port is OFF; on PROJ every fill is aborted,
with a frame in flight or without (R149, R60, R108, R126). -/
def Sys2Proof.Machine.State.portWasReset (s : State) (v : ViewId) : State :=
  let t : State :=
    match (s.port v).frame with
    | some f =>
      { s.releaseHolds f.source with
        views := s.views.set v (s.view v).unmarked
        dte := { s.dte with
          bandSets := s.dte.bandSets.set v ((s.dte.bandSets.get v).map fun b => { b with inFlight := false }) }
        ports := s.ports.set v
          { s.port v with st := .off, stall := 0, frame := none, abandoned := (s.port v).abandoned + 1 } }
    | none => { s with ports := s.ports.set v { s.port v with st := .off, stall := 0 } }
  if v = .proj then t.abortFills .proj else t

/-- PORT.RESET: its checks in order, and its effect: it resets every port of the set, lowest number first, and changes
nothing else (R116, R149). What the release and the abort do is `HoldsAreReleased`, `StillFramesAreReleased` and
`AbortEndsEveryFill`. -/
def Sys2Proof.Says.PortResetAbandons : Prop :=
  ∀ (s : State) (lvl : Level) (vs : ViewSet),
    exec (.portReset lvl vs) s =
      forSet s vs
        (if lvl = .presenter then answers s .locked .empty
        else answers ((viewsOf vs).foldl State.portWasReset s) .ok .empty)

/-- The release of a frame's holds on a record or on a slot alone: each count drops by one; a RETIRING record left with
none becomes FREE with its still, if any, released and RETIRED set, and a RELEASED slot left with none becomes FREE
(R25, R27, R51 to R53). -/
def Sys2Proof.Says.HoldsAreReleased : Prop :=
  ∀ (s : State) (src : Source),
    (src.record = none → src.slot = none → s.releaseHolds src = s)
      ∧ (∀ h : Handle, src.record = some h → src.slot = none →
        (((s.page h.idx).st ≠ .retiring ∨ 1 < (s.page h.idx).holds) →
            s.releaseHolds src =
              { s with
                records := s.records.set h.idx { s.page h.idx with holds := (s.page h.idx).holds - 1 } })
          ∧ ((s.page h.idx).st = .retiring → (s.page h.idx).holds ≤ 1 →
            ((s.page h.idx).still = none →
                s.releaseHolds src =
                  { s with
                    records := s.records.set h.idx (Record.blank (s.page h.idx).gen)
                    link := { s.link with status := s.link.status ||| Flag.only .retired } })
              ∧ ∀ j : Fin 24, (s.page h.idx).still = some j →
                s.releaseHolds src =
                  { s with
                    records := s.records.set h.idx (Record.blank (s.page h.idx).gen)
                    slots := s.slots.set j (s.slot j).released
                    freeBlocks := s.freeBlocks + s.blocksReleased (some j)
                    link := { s.link with status := s.link.status ||| Flag.only .retired } }))
      ∧ ∀ k : Fin 24, src.record = none → src.slot = some k →
        (((s.slot k).st ≠ .released ∨ 1 < (s.slot k).holds) →
            s.releaseHolds src =
              { s with slots := s.slots.set k { s.slot k with holds := (s.slot k).holds - 1 } })
          ∧ ((s.slot k).st = .released → (s.slot k).holds ≤ 1 →
            s.releaseHolds src =
              { s with
                slots := s.slots.set k { (s.slot k).freed with holds := 0 }
                freeBlocks := s.freeBlocks + (s.slot k).blocks })

/-- A slot with one hold less: FREE where it was RELEASED and has none left (R51, R53). -/
def Sys2Proof.Machine.Slot.lowered (x : Slot) : Slot :=
  if x.st = .released ∧ x.holds ≤ 1 then { x.freed with holds := 0 } else { x with holds := x.holds - 1 }

/-- The blocks a slot returns with that hold (R53). -/
def Sys2Proof.Machine.Slot.blocksLowered (x : Slot) : Nat :=
  if x.st = .released ∧ x.holds ≤ 1 then x.blocks else 0

/-- The release of a frame that shows a still, whatever record and slot have become: both holds drop at once, the
slot's first; a record that is not RETIRING, or has holds left, keeps everything else; the last hold of a RETIRING one
makes it FREE with RETIRED set, and releases its still, be it that slot or another (R25, R27, R51 to R53). -/
def Sys2Proof.Says.StillFramesAreReleased : Prop :=
  ∀ (s : State) (src : Source) (h : Handle) (k : Fin 24), src.record = some h → src.slot = some k →
    let r := s.page h.idx
    let x := s.slot k
    ((r.st ≠ .retiring ∨ 1 < r.holds) →
        s.releaseHolds src =
          { s with
            records := s.records.set h.idx { r with holds := r.holds - 1 }
            slots := s.slots.set k x.lowered
            freeBlocks := s.freeBlocks + x.blocksLowered })
      ∧ (r.st = .retiring → r.holds ≤ 1 →
        (r.still = none →
            s.releaseHolds src =
              { s with
                records := s.records.set h.idx (Record.blank r.gen)
                slots := s.slots.set k x.lowered
                freeBlocks := s.freeBlocks + x.blocksLowered
                link := { s.link with status := s.link.status ||| Flag.only .retired } })
          ∧ (r.still = some k →
            s.releaseHolds src =
              { s with
                records := s.records.set h.idx (Record.blank r.gen)
                slots := s.slots.set k x.lowered.released
                freeBlocks := s.freeBlocks + x.blocksLowered
                  + if x.lowered.holds = 0 then x.lowered.blocks else 0
                link := { s.link with status := s.link.status ||| Flag.only .retired } })
          ∧ ∀ j : Fin 24, j ≠ k → r.still = some j →
            s.releaseHolds src =
              { s with
                records := s.records.set h.idx (Record.blank r.gen)
                slots := (s.slots.set k x.lowered).set j (s.slot j).released
                freeBlocks := s.freeBlocks + x.blocksLowered + s.blocksReleased (some j)
                link := { s.link with status := s.link.status ||| Flag.only .retired } })

/-- The last hold of a RETIRING record shown by its still: the record becomes FREE, and its still is released
with that frame's hold already lowered (R27, R51, R52). -/
def Sys2Proof.Says.LastHoldOfRetiringStill : Prop :=
  ∀ (s : State) (src : Source) (h : Handle) (k : Fin 24), src.record = some h → src.slot = some k →
    (s.page h.idx).st = .retiring → (s.page h.idx).holds = 1 → (s.page h.idx).still = some k →
    (s.slot k).st = .ready → (s.slot k).holds = 1 →
    s.releaseHolds src =
      { s with
        records := s.records.set h.idx (Record.blank (s.page h.idx).gen)
        slots := s.slots.set k { (s.slot k).freed with holds := 0 }
        freeBlocks := s.freeBlocks + (s.slot k).blocks
        link := { s.link with status := s.link.status ||| Flag.only .retired } }

/-- The frame values of a frame that starts at v: a copy of PROJ's under MIRROR; otherwise the applied zoom and
centre of v's view, the centre absent under RAW for a frame that shows no page picture (R124 to R126; that a frame
with no page picture has a centre under another route is the model's inference, log 20). -/
def Sys2Proof.Says.FrameValuesRecorded : Prop :=
  ∀ (s : State) (v : ViewId) (src : Source),
    let c := s.view v
    let z := appliedZoom (rampZoom c.zoom c.current.target c.current.rate) c.current.target c.current.steady
      c.dither.val
    (src.mirrored = true →
        s.frameValues v src = s.views.proj.frame.map fun f => { f with inFlight := true })
      ∧ (src.mirrored = false → c.current.route = .raw → (src.kind = .raw ∨ src.kind = .blank) →
        s.frameValues v src = some { zoom := z, centre := none, inFlight := true })
      ∧ (src.mirrored = false →
        (c.current.route ≠ .raw ∨ src.kind = .livePage ∨ src.kind = .pageStill ∨ src.kind = .composedStill) →
        s.frameValues v src =
          some { zoom := z, inFlight := true
                 centre := some (appliedCoord c.current.panX z, appliedCoord c.current.panY z) })

/-- The zoom a frame is composed at: that of its frame values (R126). -/
def Sys2Proof.Machine.State.frameZoom (s : State) (v : ViewId) (src : Source) : Nat :=
  match s.frameValues v src with
  | some x => x.zoom
  | none => (s.view v).applied

/-- The band set of a frame: a copy of PROJ's under MIRROR, else computed for its source at its own zoom (R108,
R109). -/
def Sys2Proof.Machine.State.frameBandsAt (s : State) (v : ViewId) (src : Source) : Option BandSet :=
  if src.mirrored then s.dte.bandSets.proj.map fun b => { b with inFlight := true }
  else some (s.bandSetOf src.kind src.record src.slot (s.frameZoom v src))

/-- A frame start in RUNNING: after the apply and the start of a newly current cycle the source is resolved,
its holds are taken, the view advances, its frame values and band set are recorded and the picture is composed from
them, PROJ's QUEUED fills are captured, without a choice of corners, which is a PAGE fill's (R55), and the frame is
in flight (R137, R123 to R126, R108, R109, R140). `a` is the state after steps 1 and 2; records and slots keep all
else of it. -/
def Sys2Proof.Says.FrameStartTakesFrame : Prop :=
  ∀ (s : State) (v : ViewId) (ready : Bool), (s.port v).st = .running → (s.port v).frame = none →
    (v = .strm → ready = true) →
    ∃ (a t : State) (f : FlightFrame),
      exec (.portFramePeriod v ready) s = .next t
        ∧ a = ({ s with ports := s.ports.set v (if v = ViewId.strm then
            { s.port v with ready := true, stall := 0 } else s.port v) }).applyAtStart v
        ∧ f.source = a.resolve v
        ∧ f.picture = a.compose v f.source (a.frameZoom v f.source)
          ((a.frameValues v f.source).bind fun x => x.centre)
          (match a.frameBandsAt v f.source with
            | some b => b.bands
            | none => Vector.replicate 12 ⟨none, 0, 0, false⟩)
        ∧ t.port v = { a.port v with frame := some f }
        ∧ (∀ w : ViewId, w ≠ v → t.port w = s.port w ∧ t.view w = s.view w
          ∧ t.dte.bandSets.get w = s.dte.bandSets.get w)
        ∧ t.view v = { a.view v with
            zoom := rampZoom (a.view v).zoom (a.view v).current.target (a.view v).current.rate
            dither := (a.view v).dither + 1
            frame := a.frameValues v f.source }
        ∧ t.dte.table = s.dte.table ∧ t.dte.light = s.dte.light
        ∧ t.dte.bandSets.get v = a.frameBandsAt v f.source
        ∧ (∀ i : Fin 64, t.page i = { a.page i with
            holds := (s.page i).holds + if f.source.record.map (fun h => h.idx) = some i then 1 else 0 })
        ∧ (∀ k : Fin 24,
          let captured := v = .proj ∧ (s.slot k).st = .filling ∧ (s.slot k).source = some .proj
            ∧ (s.slot k).phase = some .queued
          t.slot k = { s.slot k with
            holds := (s.slot k).holds + if f.source.slot = some k then 1 else 0
            phase := if captured then some .capturing else (s.slot k).phase
            capture := if captured then none else (s.slot k).capture })
        ∧ t = { s with
            records := t.records, slots := t.slots, views := t.views, dte := t.dte, ports := t.ports }

/-- The picture a frame is composed into: black for BLANK; the sensor picture's window for RAW; otherwise the window
of the page picture, turned by the showing record for the live page and a PAGE still, enhanced band by band, with the
showing record's marks over it where they are shown (R140 to R143; under MIRROR by PROJ's view, R142). What names the
pixels is the model's representation (log 7). That a mirror frame is composed at its own start with PROJ's marks-shown as
it stands then is the model's reading (DEDUCED, log 19), and black where no last good picture stands its choice (log
32). -/
def Sys2Proof.Says.PicturesComposed : Prop :=
  ∀ (s : State) (v : ViewId) (src : Source) (z x y : Nat) (centre : Option (Nat × Nat)) (bands : Vector Band 12),
    (src.kind = .blank → s.compose v src z centre bands = .black)
      ∧ (src.kind = .raw →
        s.compose v src z centre bands =
          .sensorWindow (match s.sin.lastGood with | some n => .sensor n | none => .black)
            (4096 * 256 / z) (3072 * 256 / z))
      ∧ ∀ h : Handle, src.record = some h →
        let draws := if (s.view (if src.mirrored then .proj else v)).current.marksShown then
          (s.page h.idx).setup.draws z x y else []
        let shown := fun p : Picture => (.enhanced (.pageWindow p z x y) (bandActs bands z y) : Picture)
        let withMarks := fun p : Picture => if draws = [] then p else .marked p draws
        let turned := fun p : Picture =>
          (.turned p (s.page h.idx).setup.rotation (s.page h.idx).setup.mirror : Picture)
        (src.kind = .livePage → s.compose v src z (some (x, y)) bands =
            withMarks (shown (turned
              (match s.sin.lastGood with | some n => .straightened n s.cornerChoice | none => .black))))
          ∧ ∀ (k : Fin 24) (p : Picture), src.slot = some k → (s.slot k).picture = some p →
            (src.kind = .pageStill → s.compose v src z (some (x, y)) bands = withMarks (shown (turned p)))
              ∧ (src.kind = .composedStill → s.compose v src z (some (x, y)) bands = withMarks (shown p))

/-- What a COVER or an OUTLINE draws (R141). -/
def Sys2Proof.Machine.Mark.plainDraw (m : Mark) : Draw :=
  if m.kind = .cover then .cover ⟨m.x0, m.y0, m.x1, m.y1⟩ else .outline ⟨m.x0, m.y0, m.x1, m.y1⟩ 1

/-- The marks drawn in a window: those with a part in it, in position order; the first SPOTLIGHT dims everything outside
the union of all the record's SPOTLIGHT rectangles to one quarter and a later one draws nothing; a COVER fills its
rectangle; an OUTLINE draws a line one sixteenth of a band, of 4096 / 12 page units, along its rectangle's edge (R141).
A rectangle has a part in a window where their bounds overlap on both axes, the window reaching from its centre by the
half-size of R125; the rectangle includes its far edges (the model's choice, log 18), and nothing is dimmed where every SPOTLIGHT lies outside
the window (the model's reading, log 33). -/
def Sys2Proof.Says.MarksDrawn : Prop :=
  (∀ (x : Setup) (z cx cy : Nat),
      let all := x.marks.toList.filterMap id
      let spots := (all.filter fun m => decide (m.kind = .spotlight)).map
        fun m => (⟨m.x0, m.y0, m.x1, m.y1⟩ : Rect)
      let within := all.filter fun m => (⟨m.x0, m.y0, m.x1, m.y1⟩ : Rect).within z cx cy
      ((∀ m ∈ within, m.kind ≠ .spotlight) → x.draws z cx cy = within.map Mark.plainDraw)
        ∧ ∀ (before after : List Mark) (m : Mark), within = before ++ m :: after → m.kind = .spotlight →
          (∀ n ∈ before, n.kind ≠ .spotlight) →
          x.draws z cx cy =
            before.map Mark.plainDraw ++ [.dimOutside spots 4]
              ++ (after.filter fun n => decide (n.kind ≠ .spotlight)).map Mark.plainDraw)
    ∧ (∀ (r : Rect) (z cx cy : Nat),
      r.within z cx cy = true ↔
        r.x0 < cx + 524288 / z ∧ cx ≤ r.x1 + 524288 / z ∧ r.y0 < cy + 524288 / z ∧ cy ≤ r.y1 + 524288 / z)
    ∧ (∀ (rects : List Rect) (parts x y : Nat),
      (Draw.dimOutside rects parts).at x y =
        if ∃ r ∈ rects, r.x0 ≤ x ∧ x ≤ r.x1 ∧ r.y0 ≤ y ∧ y ≤ r.y1 then .keep else .dim parts)
    ∧ ∀ (r : Rect) (x y : Nat),
      (Draw.cover r).at x y = (if r.x0 ≤ x ∧ x ≤ r.x1 ∧ r.y0 ≤ y ∧ y ≤ r.y1 then .grey else .keep)
        ∧ (Draw.outline r 1).at x y =
          if (r.x0 ≤ x ∧ x ≤ r.x1 ∧ r.y0 ≤ y ∧ y ≤ r.y1)
            ∧ (12 * 16 * (x - r.x0) < 4096 ∨ 12 * 16 * (r.x1 - x) < 4096 ∨ 12 * 16 * (y - r.y0) < 4096
              ∨ 12 * 16 * (r.y1 - y) < 4096) then .line else .keep

/-- Steps 1 and 2 of a frame start: the apply when one is due, and a newly current CYCLE starts from its first
entry (R120, R137, R145). -/
def Sys2Proof.Says.FrameStartApplies : Prop :=
  ∀ (s : State) (v : ViewId),
    let due := (s.view v).applyMode = .atFrame ∨ (s.view v).armed = true
    let starts := due ∧ (s.view v).staged.sel = .cycle ∧ (s.view v).current.sel ≠ .cycle
    (¬ due → s.applyAtStart v = s)
      ∧ (due → ¬ starts → s.applyAtStart v = s.applyView v)
      ∧ (starts → s.applyAtStart v =
        { s.applyView v with
          ports := s.ports.set v
            { s.port v with
              cycle := { (s.port v).cycle with pos := 0, dwell := (s.port v).cycle.entries[0].dwell } } })

/-- The end of a frame in flight: its holds are released, its dwell counted, a stop completed, its marks cleared and
its end counted (R138); an end with no frame in flight changes nothing (the model's choice, log 4). What the end makes
of PROJ's fills is `ProjFrameEndSettlesFills`. -/
def Sys2Proof.Says.FrameEndCounts : Prop :=
  ∀ (s : State) (v : ViewId),
    ((s.port v).frame = none → exec (.portFrameEnd v) s = .next s)
      ∧ ∀ f : FlightFrame, (s.port v).frame = some f →
        ∃ t : State, exec (.portFrameEnd v) s = .next t
          ∧ t.port v = { s.port v with
              st := if (s.port v).st = .stopping then .off else (s.port v).st
              stall := if (s.port v).st = .stopping then 0 else (s.port v).stall
              frame := none
              ended := (s.port v).ended + 1
              cycle := if f.source.cyclePos.isSome ∧ f.source.mirrored = false then (s.port v).cycle.count
                else (s.port v).cycle }
          ∧ (∀ w : ViewId, w ≠ v → t.port w = s.port w ∧ t.view w = s.view w
            ∧ t.dte.bandSets.get w = s.dte.bandSets.get w)
          ∧ t.view v = (s.view v).unmarked
          ∧ t.dte.bandSets.get v = (s.dte.bandSets.get v).map (fun b => { b with inFlight := false })
          ∧ t.dte.table = s.dte.table ∧ t.dte.light = s.dte.light
          ∧ (v ≠ .proj → t.records = (s.releaseHolds f.source).records
            ∧ t.slots = (s.releaseHolds f.source).slots
            ∧ t.freeBlocks = (s.releaseHolds f.source).freeBlocks
            ∧ t.lessons = s.lessons ∧ t.link = (s.releaseHolds f.source).link)
          ∧ t.sin = s.sin ∧ t.pfd = s.pfd ∧ t.matchOn = s.matchOn ∧ t.tolerance = s.tolerance
          ∧ t.areas = s.areas ∧ t.descs = s.descs ∧ t.op = s.op ∧ t.lens = s.lens ∧ t.active = s.active

/-- The end of PROJ's frame, after its holds are released: the fills CAPTURING on it complete with its picture and the
latest light measure, 0 without one; where the port was STOPPING, and so is OFF, the fills still QUEUED are aborted, and
otherwise they stand (R138 steps 1, 3 and 4, R56, R59, R60). The premises are R50's agreement. -/
def Sys2Proof.Says.ProjFrameEndSettlesFills : Prop :=
  ∀ (s : State) (f : FlightFrame), s.ports.proj.frame = some f →
    let u := s.releaseHolds f.source
    u.fillsAgree .proj →
    let aborted := fun k : Fin 24 => s.ports.proj.st = .stopping ∧ (u.slot k).st = .filling
      ∧ (u.slot k).source = some .proj ∧ ¬ u.capturing .proj k
    ∃ t : State, exec (.portFrameEnd .proj) s = .next t
      ∧ u.fillsCompleted t .proj (fun _ => f.picture)
        (match s.pfd.latest with | some m => m.light | none => 0) aborted
      ∧ (∀ (k : Fin 24) (i : Fin 64), aborted k → (u.page i).fill = some k →
        t.slot k = (u.slot k).freed ∧ t.page i = { u.page i with fill := none }
          ∧ t.hasFlag .freezeAborted = true)
      ∧ (∀ i : Fin 64, (t.page i).selRefs = (u.page i).selRefs)
      ∧ ∀ i : Fin 64, (∀ k : Fin 24, (u.page i).fill = some k → ¬ u.capturing .proj k ∧ ¬ aborted k) →
        t.page i = u.page i

/-- STRM's frame periods: with ready negated a RUNNING port holds with stall count 1, a HOLDING one counts up to
60 and raises STRM_STALLED there; with ready asserted a HOLDING port is RUNNING and its frame starts (R146). -/
def Sys2Proof.Says.StrmFollowsSink : Prop :=
  ∀ s : State, s.ports.strm.frame = none →
    (s.ports.strm.st = .running →
        exec (.portFramePeriod .strm false) s =
          .next { s with ports := { s.ports with
            strm := { s.ports.strm with st := .holding, ready := false, stall := 1 } } })
      ∧ (s.ports.strm.st = .holding → s.ports.strm.stall < 59 →
        exec (.portFramePeriod .strm false) s =
          .next { s with ports := { s.ports with
            strm := { s.ports.strm with ready := false, stall := s.ports.strm.stall + 1 } } })
      ∧ (s.ports.strm.st = .holding → 59 ≤ s.ports.strm.stall →
        exec (.portFramePeriod .strm false) s =
          .next { s with
            ports := { s.ports with strm := { s.ports.strm with ready := false, stall := 60 } }
            link := { s.link with status := s.link.status ||| Flag.only .strmStalled } })
      ∧ (s.ports.strm.st = .holding →
        exec (.portFramePeriod .strm true) s =
          exec (.portFramePeriod .strm true)
            { s with ports := { s.ports with strm := { s.ports.strm with st := .running, stall := 0 } } })

/-- The model's choice (log 4): a frame period of a port that is OFF, STOPPING or has a frame in flight changes
nothing. -/
def Sys2Proof.Says.NoPeriodOutsideRunning : Prop :=
  ∀ (s : State) (v : ViewId) (ready : Bool),
    ((s.port v).frame.isSome ∨ (s.port v).st = .off ∨ (s.port v).st = .stopping) →
    exec (.portFramePeriod v ready) s = .next s

/-- The source of record i's page, as one frame records it (R139). -/
def Sys2Proof.Machine.State.shows (s : State) (i : Fin 64) (src : Source) : Prop :=
  src.record = some ⟨i, (s.page i).gen⟩ ∧ src.fallback = .none ∧ src.mirrored = false
    ∧ ((s.page i).still = none → src.kind = .livePage ∧ src.slot = none)
    ∧ ∀ k : Fin 24, (s.page i).still = some k → src.slot = some k
      ∧ ((s.slot k).kind = .page → src.kind = .pageStill)
      ∧ ((s.slot k).kind = .composed → src.kind = .composedStill)

/-- What a frame shows while Sensor Intake is RUNNING: by the selection under NORMAL, by PROJ's frame under
MIRROR, by the sensor under RAW (R139, R142, R143, R145). -/
def Sys2Proof.Says.SourceFollowsSelection : Prop :=
  ∀ (s : State) (v : ViewId), s.sin.st = .running → (s.page 0).still = none →
    ((s.view v).current.route = .normal →
        ((s.view v).current.sel = .live → s.shows 0 (s.resolve v) ∧ (s.resolve v).cyclePos = none)
          ∧ (∀ h : Handle, (s.view v).current.sel = .page h →
            s.shows h.idx (s.resolve v) ∧ (s.resolve v).cyclePos = none)
          ∧ ((s.view v).current.sel = .blank → s.resolve v = ⟨.blank, none, none, .none, none, false⟩)
          ∧ ∀ p : Fin 12, (s.view v).current.sel = .cycle → (s.port v).cycle.pos = p.val →
            (s.resolve v).cyclePos = some p.val
              ∧ ((s.port v).cycle.entries[p].sel = .live → s.shows 0 (s.resolve v))
              ∧ (∀ h : Handle, (s.port v).cycle.entries[p].sel = .page h → s.shows h.idx (s.resolve v))
              ∧ ((s.port v).cycle.entries[p].sel = .blank →
                s.resolve v = ⟨.blank, none, none, .none, some p.val, false⟩))
      ∧ ((s.view v).current.route = .raw → s.resolve v = ⟨.raw, none, none, .none, none, false⟩)
      ∧ ((s.view v).current.route = .mirror →
        (∀ f : FlightFrame, s.ports.proj.st = .running → s.ports.proj.frame = some f →
            s.resolve v = { f.source with mirrored := true })
          ∧ ((s.ports.proj.st ≠ .running ∨ s.ports.proj.frame = none) →
            s.resolve v = ⟨.blank, none, none, .none, none, false⟩))

/-- The source of a frame that shows record i by its still k (R139, R144). -/
def Sys2Proof.Machine.State.frameOfStill (s : State) (i : Fin 64) (k : Fin 24) (fallback : FallbackUsed)
    (pos : Option Nat) : Source :=
  ⟨(if (s.slot k).kind = .page then .pageStill else .composedStill), some ⟨i, (s.page i).gen⟩, some k, fallback, pos,
    false⟩

/-- A show-cycle entry or a selection shows the live page, through the setup of the record with this handle (R139): LIVE
through record 0's, and PAGE of a record without a still through that record's. -/
def Sys2Proof.Machine.State.livePageOf (s : State) (live : Prop) (page : Handle → Prop) (r : Handle) : Prop :=
  (live ∧ r = ⟨0, (s.page 0).gen⟩)
    ∨ ∃ h : Handle, page h ∧ (s.page h.idx).still = none ∧ r = ⟨h.idx, (s.page h.idx).gen⟩

/-- A frame of view v needs the live picture (R144): under NORMAL, for the selection or the show-cycle entry at the
position `pos`, with the record it shows the live page through; under RAW with neither. -/
def Sys2Proof.Machine.State.wantsLive (s : State) (v : ViewId) (record : Option Handle) (pos : Option Nat) : Prop :=
  let half := (s.view v).current
  (half.route = .raw ∧ record = none ∧ pos = none)
    ∨ half.route = .normal ∧ ∃ r : Handle, record = some r
      ∧ ((pos = none ∧ s.livePageOf (half.sel = .live) (fun h => half.sel = .page h) r)
        ∨ ∃ p : Fin 12, half.sel = .cycle ∧ (s.port v).cycle.pos = p.val ∧ pos = some p.val
          ∧ s.livePageOf ((s.port v).cycle.entries[p].sel = .live)
            (fun h => (s.port v).cycle.entries[p].sel = .page h) r)

/-- While Sensor Intake is not RUNNING, a frame that needs the live picture takes its view's fallback, whether by the
selection, by a show-cycle entry or by route RAW; the cycle position is kept under every fallback, and LAST keeps the
record (R144, R145). -/
def Sys2Proof.Says.FallbackReplacesLivePicture : Prop :=
  ∀ (s : State) (v : ViewId) (record : Option Handle) (pos : Option Nat), s.sin.st ≠ .running →
    s.wantsLive v record pos →
    ((s.view v).fallback = .blank → s.resolve v = ⟨.blank, none, none, .blank, pos, false⟩)
      ∧ ((s.view v).fallback = .last → s.sin.lastGood = none →
        s.resolve v = ⟨.blank, none, none, .last, pos, false⟩)
      ∧ ((s.view v).fallback = .last → s.sin.lastGood.isSome →
        s.resolve v =
          ⟨(if (s.view v).current.route = .raw then .raw else .livePage), record, none, .last, pos, false⟩)
      ∧ ∀ f : Handle, (s.view v).fallback = .page f →
        ((s.page f.idx).still = none → s.resolve v = ⟨.blank, none, none, .page, pos, false⟩)
          ∧ ∀ k : Fin 24, (s.page f.idx).still = some k → s.resolve v = s.frameOfStill f.idx k .page pos

/-- A frame that needs no live picture takes no fallback, whatever Sensor Intake's state: a selection or a show-cycle
entry that resolves to a still or is BLANK, and a MIRROR frame, which takes PROJ's frame as it is (R139, R142, R144,
R145). -/
def Sys2Proof.Says.FramesWithoutLivePicture : Prop :=
  ∀ (s : State) (v : ViewId),
    ((s.view v).current.route = .normal →
        (∀ (h : Handle) (k : Fin 24), (s.view v).current.sel = .page h → (s.page h.idx).still = some k →
            s.resolve v = s.frameOfStill h.idx k .none none)
          ∧ ((s.view v).current.sel = .blank → s.resolve v = ⟨.blank, none, none, .none, none, false⟩)
          ∧ ∀ p : Fin 12, (s.view v).current.sel = .cycle → (s.port v).cycle.pos = p.val →
            (∀ (h : Handle) (k : Fin 24), (s.port v).cycle.entries[p].sel = .page h →
                (s.page h.idx).still = some k → s.resolve v = s.frameOfStill h.idx k .none (some p.val))
              ∧ ((s.port v).cycle.entries[p].sel = .blank →
                s.resolve v = ⟨.blank, none, none, .none, some p.val, false⟩))
      ∧ ((s.view v).current.route = .mirror →
        (∀ f : FlightFrame, s.ports.proj.st = .running → s.ports.proj.frame = some f →
            s.resolve v = { f.source with mirrored := true })
          ∧ ((s.ports.proj.st ≠ .running ∨ s.ports.proj.frame = none) →
            s.resolve v = ⟨.blank, none, none, .none, none, false⟩))

/-- The dwell of a show cycle: it counts down, and at 0 the position advances modulo the length and the dwell
is loaded from the entry there (R145). -/
def Sys2Proof.Says.CycleCountsDwell : Prop :=
  ∀ (c : ShowCycle) (p : Fin 12), 1 ≤ c.length → (c.pos + 1) % c.length = p.val →
    (1 < c.dwell → c.count = { c with dwell := c.dwell - 1 })
      ∧ (c.dwell = 1 → c.count = { c with pos := p.val, dwell := c.entries[p].dwell })

/-- CYCLE.LENGTH: its checks in order and its effect (R152). -/
def Sys2Proof.Says.CycleLengthWrites : Prop :=
  ∀ (s : State) (vs : ViewSet) (n : Nat),
    exec (.cycleLength vs n) s =
      if n < 1 ∨ 12 < n then answers s .range .empty
      else forSet s vs
        (answers
          { s with
            ports := onPorts s.ports vs fun p =>
              { p with
                cycle := { p.cycle with
                  length := n
                  pos := if n ≤ p.cycle.pos then 0 else p.cycle.pos
                  dwell := if n ≤ p.cycle.pos then p.cycle.entries[0].dwell else p.cycle.dwell } } }
          .ok .empty)

/-- How many entries of the ports of a set, among the positions that satisfy p, name record i. -/
def Sys2Proof.Machine.State.cycleNaming (s : State) (vs : ViewSet) (p : Fin 12 → Bool) (i : Fin 64) : Nat :=
  ((viewsOf vs).map fun v =>
    (List.finRange 12).countP fun q => p q && ((s.port v).cycle.entries[q].sel.page? == some i)).sum

/-- CYCLE.WRITE refused: a payload whose shape does not hold its n entries, with a PAGE without a handle or any other kind
with one, is ARGUMENT; then a start, count, kind or dwell out of range RANGE; then the view set is checked; then the
handles of its entries, one after another (R116, R117, R151; the order of the entries: log 33). -/
def Sys2Proof.Says.CycleWriteRefused : Prop :=
  ∀ (s : State) (vs : ViewSet) (form : CycleForm),
    ((form.entries.length ≠ form.count
        ∨ ∃ e ∈ form.entries, (e.kind = .val .page ∧ e.handle = none) ∨ (e.kind ≠ .val .page ∧ e.handle.isSome)) →
      exec (.cycleWrite vs form) s = answers s .argument .empty)
      ∧ (form.entries.length = form.count → (∀ e ∈ form.entries, e.kind = .val .page ↔ e.handle.isSome) →
        ((11 < form.start ∨ form.count < 1 ∨ 12 < form.count
            ∨ ∃ e ∈ form.entries, e.kind = .other ∨ e.dwell < 1 ∨ 4095 < e.dwell) →
          exec (.cycleWrite vs form) s = answers s .range .empty)
          ∧ (form.start ≤ 11 → 1 ≤ form.count → form.count ≤ 12 →
            (∀ e ∈ form.entries, e.kind ≠ .other ∧ 1 ≤ e.dwell ∧ e.dwell ≤ 4095) →
            (8 ≤ vs.toNat → exec (.cycleWrite vs form) s = answers s .range .empty)
              ∧ (vs = 0 → exec (.cycleWrite vs form) s = answers s .target .empty)
              ∧ ∀ (n : Nat) (e : EntryArg) (c : ResultCode), vs ≠ 0 → vs.toNat < 8 → form.entries[n]? = some e →
                s.handleRefusal e.handle = some c →
                (∀ x ∈ form.entries.take n, s.handleRefusal x.handle = none) →
                exec (.cycleWrite vs form) s = answers s c .empty))

/-- CYCLE.WRITE writes entry i of the payload to position (s + i) mod 12 of every port of the set, CYCLE.CLEAR
makes every entry BLANK, and the cycle refs move (R24, R151, R153). The premise is R24's: the refs count at
least the entries replaced. -/
def Sys2Proof.Says.CycleWriteAndClear : Prop :=
  ∀ (s : State) (vs : ViewSet), vs ≠ 0 → vs.toNat < 8 →
    (∀ i : Fin 64, s.cycleNaming vs (fun _ => true) i ≤ (s.page i).cycRefs) →
    (∃ t : State, exec (.cycleClear vs) s = answers t .ok .empty
        ∧ t.ports = onPorts s.ports vs (fun p =>
          { p with cycle := ⟨Vector.replicate 12 ⟨.blank, 1⟩, p.cycle.length, 0, 1⟩ })
        ∧ (∀ i : Fin 64, t.page i = { s.page i with
            cycRefs := (s.page i).cycRefs - s.cycleNaming vs (fun _ => true) i })
        ∧ t = { s with records := t.records, ports := t.ports })
      ∧ ∀ (start : Fin 12) (entries : List CycleEntry), 1 ≤ entries.length → entries.length ≤ 12 →
        (∀ e ∈ entries, 1 ≤ e.dwell ∧ e.dwell ≤ 4095) →
        (∀ e ∈ entries, ∀ h : Handle, e.sel = .page h → h.idx ≠ 0 ∧ (s.page h.idx).st = .opened
          ∧ h.gen = (s.page h.idx).gen) →
        ∃ t : State,
          exec (.cycleWrite vs ⟨start.val, entries.length, entries.map fun e =>
              match e.sel with
              | .live => ⟨.val .live, none, e.dwell⟩
              | .page h => ⟨.val .page, some (s.refTo h.idx), e.dwell⟩
              | .blank => ⟨.val .blank, none, e.dwell⟩⟩) s = answers t .ok .empty
            ∧ t.ports = onPorts s.ports vs (fun p =>
              { p with cycle := { p.cycle with
                  entries := Vector.ofFn fun q =>
                    (entries[(q.val + 12 - start.val) % 12]?).getD p.cycle.entries[q] } })
            ∧ (∀ i : Fin 64, t.page i = { s.page i with
                cycRefs := (s.page i).cycRefs
                  - s.cycleNaming vs (fun q => decide ((q.val + 12 - start.val) % 12 < entries.length)) i
                  + (viewsOf vs).length * entries.countP fun e => e.sel.page? = some i })
            ∧ t = { s with records := t.records, ports := t.ports }

/-- CYCLE.CLEAR checks its view set (R116, R153). -/
def Sys2Proof.Says.CycleClearRefused : Prop :=
  ∀ (s : State) (vs : ViewSet),
    (8 ≤ vs.toNat → exec (.cycleClear vs) s = answers s .range .empty)
      ∧ (vs = 0 → exec (.cycleClear vs) s = answers s .target .empty)

/-! ### Lesson flash (R154 to R167) -/

/-- LESSON.COMMIT of an OPEN lesson with no operation in flight and no fill pending (R158, R159, R154). -/
def Sys2Proof.Says.LessonCommitStarts : Prop :=
  (∀ (s : State) (lvl : Level) (l : Fin 8), (s.lesson l).st = .opened → s.op = none →
    (s.lesson l).lock.rank ≤ lvl.rank → (∀ i ∈ (s.lesson l).order, (s.page i).fill = none) →
    exec (.lessonCommit lvl (l.val + 1)) s =
      answers
        { s with
          lessons := s.lessons.set l
            { s.lesson l with st := .committing, progress := some 0, stored := false }
          areas := s.areas.set l { s.areas[l] with cells := writeBytes s.areas[l].cells 0 [0, 0, 0, 0] }
          descs := s.descs.set l ⟨false, false, none⟩
          op := some (.commit l .erase) }
        .accepted .empty)
    ∧ ∀ a : Area,
      ({ a with cells := writeBytes a.cells 0 [0, 0, 0, 0] } : Area).markerValid = false
        ∧ ({ a with cells := writeBytes a.cells 0 [0x5A, 0xC3, 0x3C, 0xA5] } : Area).markerValid = a.answers

/-- The refusals of LESSON.COMMIT, in order (R157, R158). -/
def Sys2Proof.Says.LessonCommitRefusals : Prop :=
  ∀ (s : State) (lvl : Level),
    (∀ n : Nat, (n = 0 ∨ 8 < n) → exec (.lessonCommit lvl n) s = answers s .range .empty)
      ∧ ∀ l : Fin 8,
        ((s.lesson l).st = .committing →
            exec (.lessonCommit lvl (l.val + 1)) s = answers s .busy .empty)
          ∧ (((s.lesson l).st = .absent ∨ (s.lesson l).st = .loading) →
            exec (.lessonCommit lvl (l.val + 1)) s = answers s .state .empty)
          ∧ ((s.lesson l).st = .opened → s.op ≠ none →
            exec (.lessonCommit lvl (l.val + 1)) s = answers s .busy .empty)
          ∧ ((s.lesson l).st = .opened → s.op = none → lvl.rank < (s.lesson l).lock.rank →
            exec (.lessonCommit lvl (l.val + 1)) s = answers s .locked .empty)
          ∧ ((s.lesson l).st = .opened → s.op = none → (s.lesson l).lock.rank ≤ lvl.rank →
            (∃ i ∈ (s.lesson l).order, (s.page i).fill ≠ none) →
            exec (.lessonCommit lvl (l.val + 1)) s = answers s .busy .empty)

/-- The FREE records of 1..63, ascending (R162, R163). -/
def Sys2Proof.Machine.State.freeRecords (s : State) : List (Fin 64) :=
  (List.finRange 64).filter fun i => decide (i ≠ 0) && decide ((s.page i).st = .free)

/-- The FREE slots, ascending (R162, R163). -/
def Sys2Proof.Machine.State.freeSlots (s : State) : List (Fin 24) :=
  (List.finRange 24).filter fun k => decide ((s.slot k).st = .free)

/-- The number of pages before page k that have a still. -/
def Sys2Proof.Machine.stillsBefore (dir : List (Option DirEntry)) (k : Nat) : Nat :=
  (dir.take k).countP Option.isSome

/-- Header values within R155: 32 directory entries, none at or above the page count, whose non-zero entries the
still count counts and the block count sums. -/
def Sys2Proof.Machine.HeaderVals.sums (h : HeaderVals) : Prop :=
  h.pages ≤ 32 ∧ h.dir.length = 32 ∧ (∀ k : Nat, h.pages ≤ k → h.dir.getD k none = none)
    ∧ h.stills = h.dir.countP Option.isSome ∧ h.blocks = (h.dir.map dirBlocks).sum

/-- LESSON.LOAD reserves everything it will fill: the lesson is LOADING with the descriptor's label and lock, page
k takes the k-th FREE record and each page with a still the next FREE slot (R162, R163). That a LOADING record's dirty
flag is no is the model's inference (DEDUCED, log 30): R9 gives it when the load completes. -/
def Sys2Proof.Says.LessonLoadReserves : Prop :=
  ∀ (s : State) (lvl : Level) (l : Fin 8) (h : HeaderVals), (s.lesson l).st = .absent →
    (s.lesson l).stored = true → s.op = none → s.descs[l] = ⟨true, true, some h⟩ → h.sums →
    h.lock.rank ≤ lvl.rank → h.pages ≤ s.freeRecords.length → h.stills ≤ s.freeSlots.length →
    h.blocks ≤ s.freeBlocks →
    ∃ t : State,
      exec (.lessonLoad lvl (l.val + 1)) s = answers t .accepted .empty
        ∧ t = { s with
          records := t.records
          slots := t.slots
          freeBlocks := s.freeBlocks - h.blocks
          lessons := s.lessons.set l { s.lesson l with st := .loading, label := h.label, lock := h.lock }
          op := some (.load l .header) }
        ∧ (∀ i : Fin 64, i ∉ s.freeRecords.take h.pages → t.page i = s.page i)
        ∧ (∀ j : Fin 24, j ∉ s.freeSlots.take h.stills → t.slot j = s.slot j)
        ∧ ∀ (k : Nat) (i : Fin 64), k < h.pages → s.freeRecords[k]? = some i →
          (h.dir[k]? = some none →
              t.page i = { Record.blank ((s.page i).gen + 1) with st := .loading })
            ∧ ∀ (e : DirEntry) (j : Fin 24), h.dir[k]? = some (some e) →
              s.freeSlots[stillsBefore h.dir k]? = some j →
              t.page i = { Record.blank ((s.page i).gen + 1) with st := .loading, fill := some j }
                ∧ t.slot j =
                  { st := .filling, blocks := e.blocks, kind := e.kind, light := e.light, holds := 0,
                    record := some ⟨i, (s.page i).gen + 1⟩, source := some .load, phase := none,
                    capture := none, picture := none }

/-- The refusals of LESSON.LOAD, in order (R157, R162). -/
def Sys2Proof.Says.LessonLoadRefusals : Prop :=
  ∀ (s : State) (lvl : Level),
    (∀ n : Nat, (n = 0 ∨ 8 < n) → exec (.lessonLoad lvl n) s = answers s .range .empty)
      ∧ ∀ l : Fin 8,
        (((s.lesson l).st ≠ .absent ∨ (s.lesson l).stored = false) →
            exec (.lessonLoad lvl (l.val + 1)) s = answers s .state .empty)
          ∧ ((s.lesson l).st = .absent → (s.lesson l).stored = true →
            (s.op ≠ none → exec (.lessonLoad lvl (l.val + 1)) s = answers s .busy .empty)
              ∧ (s.op = none → s.descs[l].sound = false →
                exec (.lessonLoad lvl (l.val + 1)) s = answers s .state .empty)
              ∧ ∀ h : HeaderVals, s.op = none → s.descs[l] = ⟨true, true, some h⟩ →
                (lvl.rank < h.lock.rank →
                    exec (.lessonLoad lvl (l.val + 1)) s = answers s .locked .empty)
                  ∧ (h.lock.rank ≤ lvl.rank → s.freeRecords.length < h.pages →
                    exec (.lessonLoad lvl (l.val + 1)) s = answers s .full .empty)
                  ∧ (h.lock.rank ≤ lvl.rank → h.pages ≤ s.freeRecords.length →
                    (s.freeSlots.length < h.stills ∨ s.freeBlocks < h.blocks) →
                    exec (.lessonLoad lvl (l.val + 1)) s = answers s .noStill .empty))

/-- A commit that ends without completing (R161, R166). That every byte of the area stands is the model's choice
(DESIGN CHOICE, unsafe, log 8): R161 leaves the area with whatever had been written. -/
def Sys2Proof.Machine.State.commitFailed (s : State) (l : Fin 8) : State :=
  { s with
    lessons := s.lessons.set l
      { s.lesson l with st := .opened, stored := false, lost := true, dirty := true, progress := none }
    op := none
    link := { s.link with status := s.link.status ||| Flag.only .opFailed } }

/-- The LOADING records, ascending: those of the load in flight in page order (R163). -/
def Sys2Proof.Machine.State.loadings (s : State) : List (Fin 64) :=
  (List.finRange 64).filter fun i => decide ((s.page i).st = .loading)

/-- Slot k is the fill pending of a LOADING record. -/
def Sys2Proof.Machine.State.loadFills (s : State) (k : Fin 24) : Bool :=
  s.loadings.any fun i => decide ((s.page i).fill = some k)

/-- A load that ends without completing: its records and slots are FREE, its lesson ABSENT (R165, R29). -/
def Sys2Proof.Machine.State.loadDropped (s : State) (l : Fin 8) : State :=
  { s with
    records := Vector.ofFn fun i =>
      if (s.page i).st = .loading then Record.blank (s.page i).gen else s.page i
    slots := Vector.ofFn fun k => if s.loadFills k then (s.slot k).freed else s.slot k
    freeBlocks := s.freeBlocks + (s.loadings.map fun i => s.blocksOf (s.page i).fill).sum
    lessons := s.lessons.set l
      { st := .absent, label := none, lock := .presenter, stored := (s.lesson l).stored,
        lost := (s.lesson l).lost, dirty := false, order := [], cursor := none, progress := none }
    active := if s.active = some l then none else s.active
    op := none }

/-- No slot is the fill pending of two LOADING records (R50). -/
def Sys2Proof.Machine.State.fillsApart (s : State) : Prop :=
  ∀ i j : Fin 64, i ∈ s.loadings → j ∈ s.loadings → (s.page i).fill ≠ none →
    (s.page i).fill = (s.page j).fill → i = j

/-- LESSON.ABANDON ends a commit as a failed one, with OP_FAILED, and a load without a flag; any other lesson is
refused STATE (R166, R165, R161). The bytes of an abandoned commit's area are the model's choice (log 8). -/
def Sys2Proof.Says.LessonAbandonStops : Prop :=
  ∀ (s : State) (lvl : Level),
    (∀ n : Nat, (n = 0 ∨ 8 < n) → exec (.lessonAbandon lvl n) s = answers s .range .empty)
      ∧ ∀ l : Fin 8,
        (((s.lesson l).st = .absent ∨ (s.lesson l).st = .opened) →
            exec (.lessonAbandon lvl (l.val + 1)) s = answers s .state .empty)
          ∧ (((s.lesson l).st = .committing ∨ (s.lesson l).st = .loading) →
            lvl.rank < (s.lesson l).lock.rank →
            exec (.lessonAbandon lvl (l.val + 1)) s = answers s .locked .empty)
          ∧ ((s.lesson l).lock.rank ≤ lvl.rank →
            ((s.lesson l).st = .committing →
                exec (.lessonAbandon lvl (l.val + 1)) s = answers (s.commitFailed l) .ok .empty)
              ∧ ((s.lesson l).st = .loading → s.fillsApart →
                exec (.lessonAbandon lvl (l.val + 1)) s = answers (s.loadDropped l) .ok .empty))

/-- LESSON.ERASE clears the marker of an area whose lesson is ABSENT or OPEN; its refusals, in order (R157,
R167). -/
def Sys2Proof.Says.LessonEraseClears : Prop :=
  ∀ (s : State) (lvl : Level),
    (∀ n : Nat, (n = 0 ∨ 8 < n) → exec (.lessonErase lvl n) s = answers s .range .empty)
      ∧ ∀ l : Fin 8,
        (((s.lesson l).st = .loading ∨ (s.lesson l).st = .committing) →
            exec (.lessonErase lvl (l.val + 1)) s = answers s .busy .empty)
          ∧ (((s.lesson l).st = .absent ∨ (s.lesson l).st = .opened) →
            (s.op ≠ none → exec (.lessonErase lvl (l.val + 1)) s = answers s .busy .empty)
              ∧ (s.op = none → lvl.rank < (s.lesson l).lock.rank →
                exec (.lessonErase lvl (l.val + 1)) s = answers s .locked .empty)
              ∧ (∀ h : HeaderVals, s.op = none → s.descs[l] = ⟨true, true, some h⟩ →
                lvl.rank < h.lock.rank →
                exec (.lessonErase lvl (l.val + 1)) s = answers s .locked .empty)
              ∧ (s.op = none → (s.lesson l).lock.rank ≤ lvl.rank →
                (∀ h : HeaderVals, s.descs[l].header = some h → s.descs[l].sound = true →
                  h.lock.rank ≤ lvl.rank) →
                exec (.lessonErase lvl (l.val + 1)) s =
                  answers
                    { s with
                      lessons := s.lessons.set l
                        { s.lesson l with
                          stored := false
                          lost := false
                          dirty := (s.lesson l).dirty || decide ((s.lesson l).st = .opened) }
                      areas := s.areas.set l
                        { s.areas[l] with cells := writeBytes s.areas[l].cells 0 [0, 0, 0, 0] }
                      descs := s.descs.set l ⟨false, false, none⟩
                      op := some (.clear l) }
                    .ok .empty))

/-- The directory entry of record i (R160). -/
def Sys2Proof.Machine.State.entryOf (s : State) (i : Fin 64) : Option DirEntry :=
  match (s.page i).still with
  | some k => some ⟨(s.slot k).blocks, (s.slot k).kind, (s.slot k).light⟩
  | none => none

/-- The header a commit of lesson l writes (R160). -/
def Sys2Proof.Machine.State.headerNow (s : State) (l : Fin 8) : HeaderVals where
  pages := (s.lesson l).order.length
  stills := (s.lesson l).order.countP fun i => (s.page i).still.isSome
  blocks := ((s.lesson l).order.map fun i => s.blocksOf (s.page i).still).sum
  lock := (s.lesson l).lock
  label := (s.lesson l).label
  dir := (s.lesson l).order.map s.entryOf ++ List.replicate (32 - (s.lesson l).order.length) none

/-- The sum of the block counts of the stills of the pages before page k (R160). -/
def Sys2Proof.Machine.State.packedBefore (s : State) (l : Fin 8) (k : Nat) : Nat :=
  (((s.lesson l).order.take k).map fun i => s.blocksOf (s.page i).still).sum

/-- The phase after HEADER or page k - 1 of a commit (R160). -/
def Sys2Proof.Machine.State.afterPages (s : State) (l : Fin 8) (k : Nat) : FlashOp :=
  .commit l (if k < (s.lesson l).order.length then .page k else .marker)

/-- Block frames with picture p, of n blocks, in those from `first` on (R154, R160). -/
def Sys2Proof.Machine.framesWith (v : Vector (Option BlockFrame) 64) (first n : Nat) (p : Picture) :
    Vector (Option BlockFrame) 64 :=
  Vector.ofFn fun f => if first ≤ f.val ∧ f.val < first + n then some ⟨p, f.val - first, n⟩ else v[f]

/-- The parts of an area by offset: bytes below 8192, where the picture region starts, and block frames from there on;
the 32 page image places end below it (R154, R155). The bytes of the region are in an encoding that is not described
(R154): that a read which reaches them gives none, and a write stops before them, is the model's choice (DESIGN CHOICE,
log 8), and so is that a byte nothing has written reads as absent. -/
def Sys2Proof.Says.AreaLayout : Prop :=
  (∀ (a : Area) (x : Nat),
    (x < 8192 → a.contentAt x = .byte (readCell a.cells x))
      ∧ (8192 ≤ x → a.contentAt x = .picture a.frames ∧ ∀ l : List Byte, a.put x l = a)
      ∧ (∀ l : List Byte, x + l.length ≤ 8192 → a.put x l = { a with cells := writeBytes a.cells x l })
      ∧ ∀ n : Nat,
        (x + n ≤ 8192 → a.read x n = readBytes a.cells x n)
          ∧ (0 < n → 8192 < x + n → a.read x n = none))
    ∧ ∀ k : Nat, k < 32 → 128 + 130 * k + 130 ≤ 8192

/-- The phases ERASE, HEADER and PAGE k of a commit, each beginning at the end of the one before (R160). An order
has at most 32 records (R32) and their stills at most 64 blocks (R48). That a phase's bytes are written whole at its
end is the model's choice (DESIGN CHOICE, unsafe, log 8). -/
def Sys2Proof.Says.CommitPhasesWriteArea : Prop :=
  ∀ (s : State) (l : Fin 8), (s.lesson l).order.length ≤ 32 →
    (s.op = some (.commit l .erase) →
        exec .commitPhaseEnd s =
          .next { s with
            areas := s.areas.set l { s.areas[l] with cells := [], frames := Vector.replicate 64 none }
            op := some (.commit l .header) })
      ∧ (s.op = some (.commit l .header) →
        exec .commitPhaseEnd s =
          .next { s with
            areas := s.areas.set l
              (s.areas[l].put 4 (headerBytes l (s.headerNow l)))
            op := some (s.afterPages l 0) })
      ∧ ∀ (k : Nat) (i : Fin 64), s.op = some (.commit l (.page k)) → (s.lesson l).order[k]? = some i →
        ((s.page i).still = none →
            exec .commitPhaseEnd s =
              .next { s with
                areas := s.areas.set l
                  (s.areas[l].put (128 + 130 * k) (pageBytes (s.page i).setup false 0))
                lessons := s.lessons.set l
                  { s.lesson l with progress := (s.lesson l).progress.map (· + 1) }
                op := some (s.afterPages l (k + 1)) })
          ∧ ∀ (j : Fin 24) (p : Picture), (s.page i).still = some j → (s.slot j).picture = some p →
            s.packedBefore l k + (s.slot j).blocks ≤ 64 →
            exec .commitPhaseEnd s =
              .next { s with
                areas := s.areas.set l
                  { s.areas[l].put (128 + 130 * k)
                      (pageBytes (s.page i).setup true (s.packedBefore l k)) with
                    frames := framesWith s.areas[l].frames (s.packedBefore l k) (s.slot j).blocks p }
                lessons := s.lessons.set l
                  { s.lesson l with progress := (s.lesson l).progress.map (· + 1) }
                op := some (s.afterPages l (k + 1)) }

/-- The end of MARKER completes a commit (R160, R154). The marker is written whole at the phase's end (the model's
choice, log 8), and the descriptor is taken from the lesson as it stands then (DEDUCED, log 33). -/
def Sys2Proof.Says.CommitCompletes : Prop :=
  ∀ (s : State) (l : Fin 8), (s.lesson l).order.length ≤ 32 → s.op = some (.commit l .marker) →
    exec .commitPhaseEnd s =
      .next { s with
        areas := s.areas.set l
          { s.areas[l] with cells := writeBytes s.areas[l].cells 0 [0x5A, 0xC3, 0x3C, 0xA5] }
        lessons := s.lessons.set l
          { s.lesson l with st := .opened, stored := true, lost := false, progress := none, dirty := false }
        records := Vector.ofFn fun i =>
          if i ∈ (s.lesson l).order then { s.page i with dirty := false } else s.page i
        descs := s.descs.set l ⟨true, true, some (s.headerNow l)⟩
        op := none
        link := { s.link with status := s.link.status ||| Flag.only .commitDone } }

/-- The model's choice (log 4): a phase end or a clear end without such an operation in flight changes nothing.
The end of a clear leaves no operation in flight (R167). -/
def Sys2Proof.Says.PhaseEndsWithoutOperation : Prop :=
  ∀ s : State,
    ((∀ (l : Fin 8) (p : CommitPhase), s.op ≠ some (.commit l p)) → exec .commitPhaseEnd s = .next s)
      ∧ ((∀ (l : Fin 8) (p : LoadPhase), s.op ≠ some (.load l p)) → exec .loadPhaseEnd s = .next s)
      ∧ ((∀ l : Fin 8, s.op ≠ some (.clear l)) → exec .clearEnd s = .next s)
      ∧ (∀ l : Fin 8, s.op = some (.clear l) → exec .clearEnd s = .next { s with op := none })
      ∧ (s.op = none → ∀ c ∈ [Instr.flashStepTimeout, .flashStepFailure true, .flashStepFailure false],
        exec c s = .next s)

/-- A load that fails: ended, with OP_FAILED (R165). -/
def Sys2Proof.Machine.State.loadFailed (s : State) (l : Fin 8) : State :=
  { s.loadDropped l with link := { s.link with status := s.link.status ||| Flag.only .opFailed } }

/-- A flash step that fails or does not end in time fails its commit or its load; a failure of the clear alone
fails no commit in ERASE, and a clear ends without a flag (R160, R161, R164, R165, R167). That a failure reported for a
clear ends it is the model's inference (DEDUCED, log 23), and the bytes of a failed commit's area are its choice (log
8). -/
def Sys2Proof.Says.FlashStepFailures : Prop :=
  ∀ (s : State) (l : Fin 8),
    (∀ p : CommitPhase, s.op = some (.commit l p) →
        exec .flashStepTimeout s = .next (s.commitFailed l)
          ∧ exec (.flashStepFailure false) s = .next (s.commitFailed l)
          ∧ (p = .erase → exec (.flashStepFailure true) s = .next s))
      ∧ (∀ p : LoadPhase, s.op = some (.load l p) → s.fillsApart →
        exec .flashStepTimeout s = .next (s.loadFailed l)
          ∧ exec (.flashStepFailure false) s = .next (s.loadFailed l))
      ∧ (s.op = some (.clear l) →
        exec .flashStepTimeout s = .next { s with op := none }
          ∧ ∀ clearAlone : Bool, exec (.flashStepFailure clearAlone) s = .next { s with op := none })

/-- A load of lesson l completes (R164, R63). -/
def Sys2Proof.Machine.State.loadCompleted (s : State) (l : Fin 8) : State :=
  { s with
    records := Vector.ofFn fun i =>
      if (s.page i).st = .loading then
        { s.page i with st := .opened, lesson := some l, still := (s.page i).fill, fill := none,
                        dirty := false, selRefs := 0, cycRefs := 0, holds := 0 }
      else s.page i
    slots := Vector.ofFn fun k =>
      if s.loadFills k then { s.slot k with st := .ready, source := none, phase := none } else s.slot k
    lessons := s.lessons.set l
      { s.lesson l with
        st := .opened, order := s.loadings, cursor := none, dirty := false, stored := true, lost := false }
    op := none
    link := { s.link with status := s.link.status ||| Flag.only .loadDone } }

/-- The load of lesson l goes on to page k, or completes after its last page (R164). -/
def Sys2Proof.Machine.State.loadGoesOn (s : State) (l : Fin 8) (pages k : Nat) : State :=
  if k < pages then { s with op := some (.load l (.page k)) } else s.loadCompleted l

/-- The end of HEADER of a load: a header read that is the descriptor's goes on, any other fails (R164). -/
def Sys2Proof.Says.LoadHeaderIsCompared : Prop :=
  ∀ (s : State) (l : Fin 8) (h : HeaderVals), s.op = some (.load l .header) →
    s.descs[l] = ⟨true, true, some h⟩ → s.fillsApart →
    (s.areas[l].describe l = ⟨true, true, some h⟩ →
        exec .loadPhaseEnd s = .next (s.loadGoesOn l h.pages 0))
      ∧ (s.areas[l].describe l ≠ ⟨true, true, some h⟩ → exec .loadPhaseEnd s = .next (s.loadFailed l))

/-- The first block of page k by a directory, 0 for a page without a still (R155, R160; for reading, the model's
inference of log 15). -/
def Sys2Proof.Machine.firstOf (dir : List (Option DirEntry)) (k : Nat) : Nat :=
  if (dir.getD k none).isSome then ((dir.take k).map dirBlocks).sum else 0

/-- The end of PAGE k of a load: a sound image that fits the directory is written into page k's record, with its
still's picture into the record's slot; any other fails the load (R164). `pageSound` also asks that the fields of an
absent item be zero, the model's reading (log 16), and a page without a still has first block 0 (DEDUCED, log 15). That
an area may not answer is the model's input (DESIGN CHOICE, log 9), and that a byte nothing has written reads as absent
its choice (log 8): an image in such an area or with such a byte fails the load as one that does not agree. -/
def Sys2Proof.Says.LoadPagesFillRecords : Prop :=
  ∀ (s : State) (l : Fin 8) (h : HeaderVals) (k : Nat) (i : Fin 64), s.op = some (.load l (.page k)) →
    s.descs[l].header = some h → s.fillsApart → s.loadings[k]? = some i →
    ((s.areas[l].answers = false ∨ s.areas[l].read (128 + 130 * k) 130 = none) →
        exec .loadPhaseEnd s = .next (s.loadFailed l))
      ∧ ∀ b : List Byte, s.areas[l].answers = true →
        s.areas[l].read (128 + 130 * k) 130 = some b →
        ((pageSound b = false ∨ flagged b 5 ≠ (h.dir.getD k none).isSome ∨ byteAt b 124 ≠ firstOf h.dir k) →
            exec .loadPhaseEnd s = .next (s.loadFailed l))
          ∧ (pageSound b = true → flagged b 5 = (h.dir.getD k none).isSome →
            byteAt b 124 = firstOf h.dir k →
            ((s.page i).fill = none →
                exec .loadPhaseEnd s =
                  .next
                    (({ s with records := s.records.set i { s.page i with setup := pageSetup b } } : State).loadGoesOn
                      l h.pages (k + 1)))
              ∧ ∀ (e : DirEntry) (j : Fin 24) (p : Picture), h.dir[k]? = some (some e) → 0 < e.blocks →
                (s.page i).fill = some j →
                (∀ n : Nat, n < e.blocks →
                  s.areas[l].frames.toList.getD (firstOf h.dir k + n) none = some ⟨p, n, e.blocks⟩) →
                exec .loadPhaseEnd s =
                  .next
                    (({ s with
                        records := s.records.set i { s.page i with setup := pageSetup b }
                        slots := s.slots.set j { s.slot j with picture := some p } } : State).loadGoesOn
                      l h.pages (k + 1)))

/-! #### The byte layouts of R155 -/

/-- A label field at offset x: its length, 0 where it is absent, then 24 bytes, the characters and then zeros (R155). -/
def Sys2Proof.Machine.labelSpelled (label : Option (List Byte)) (b : List Byte) (x : Nat) : Prop :=
  byteAt b x = (match label with | some t => t.length | none => 0)
    ∧ ∀ n : Nat, n < 24 → byteAt b (x + 1 + n) = (match label with | some t => byteAt t n | none => 0)

/-- Half-byte n of the bytes from offset x on, the first in the high half (R155). -/
def Sys2Proof.Machine.halfAt (b : List Byte) (x n : Nat) : Nat :=
  if n % 2 = 0 then byteAt b (x + n / 2) / 16 else byteAt b (x + n / 2) % 16

/-- The number of n bytes from offset x on, most significant byte first (R154). -/
def Sys2Proof.Machine.numberAt (b : List Byte) (x n : Nat) : Nat :=
  (List.range n).foldl (fun v i => 256 * v + byteAt b (x + i)) 0

/-- The lock codes of R155. -/
def Sys2Proof.Machine.lockCodes : List (Level × Nat) := [(.presenter, 0), (.owner, 1), (.admin, 2)]

/-- The page mode codes of R155. -/
def Sys2Proof.Machine.modeCodes : List (PageMode × Nat) :=
  [(.plain, 0), (.text, 1), (.fineLine, 2), (.photo, 3), (.chart, 4), (.invert, 5)]

/-- That bytes b, from area offset 4 on, spell the header of area l by the first table of R155: area offset x is byte
x - 4 of them. -/
def Sys2Proof.Machine.HeaderVals.spelledBy (h : HeaderVals) (l : Fin 8) (b : List Byte) : Prop :=
  let field := fun x : Nat => byteAt b (x - 4)
  field 4 = 1 ∧ field 5 = l.val + 1 ∧ field 6 = h.pages ∧ field 7 = h.stills ∧ field 8 = h.blocks
    ∧ (h.lock, field 9) ∈ lockCodes ∧ labelSpelled h.label b (10 - 4)
    ∧ (∀ k : Nat, k < 32 →
      match h.dir.getD k none with
      | none => field (36 + 2 * k) = 0
      | some e => field (36 + 2 * k) = e.blocks ∧ field (37 + 2 * k) % 16 = e.light.val
        ∧ (e.kind, field (37 + 2 * k) / 16 % 2) ∈ [(StillKind.page, 0), (.composed, 1)])
    ∧ numberAt b (100 - 4) 2 = (crc16 (b.take (100 - 4))).toNat

/-- That the bytes b of a page image spell saved fields, a still flag and a first block by the second table of R155.
That zeros under a clear presence flag are asked of bytes read, too, is the model's reading (DEDUCED, log 16). -/
def Sys2Proof.Machine.Setup.spelledBy (x : Setup) (still : Bool) (first : Nat) (b : List Byte) : Prop :=
  (∀ n : Fin 8, (b.getD 0 0).getLsbD n.val =
      [x.corners.isSome, x.mirror, x.signature.isSome, x.matchEnable, x.preset.isSome, still, false, false].getD
        n.val false)
    ∧ (x.lock, byteAt b 1) ∈ lockCodes ∧ b.getD 2 0 = x.groups
    ∧ (x.rotation, byteAt b 3) ∈ [(Rotation.r0, 0), (.r90, 1), (.r180, 2), (.r270, 3)]
    ∧ (x.pageMode, byteAt b 4) ∈ modeCodes
    ∧ (∀ i : Fin 12,
      match x.overrides[i] with
      | none => halfAt b 5 i.val = 15
      | some m => (m, halfAt b 5 i.val) ∈ modeCodes)
    ∧ labelSpelled x.label b 11
    ∧ (match x.corners with
      | none => ∀ n : Nat, n < 16 → byteAt b (36 + n) = 0
      | some c => ∀ e ∈ [(36, c.tl), (40, c.tr), (44, c.br), (48, c.bl)],
        numberAt b e.1 2 = e.2.x ∧ numberAt b (e.1 + 2) 2 = e.2.y)
    ∧ (match x.signature with
      | none => ∀ n : Nat, n < 8 → byteAt b (52 + n) = 0
      | some g => ∀ n : Fin 16, halfAt b 52 n.val = g[n].toNat)
    ∧ numberAt b 60 2 = x.sigMask.toNat
    ∧ (match x.preset with
      | none => ∀ n : Nat, n < 6 → byteAt b (62 + n) = 0
      | some p => numberAt b 62 2 = p.zoom ∧ numberAt b 64 2 = p.x ∧ numberAt b 66 2 = p.y)
    ∧ (∀ i : Fin 8,
      match x.marks[i] with
      | none => byteAt b (68 + 7 * i.val) = 0
      | some m => (m.kind, byteAt b (68 + 7 * i.val)) ∈ [(MarkKind.spotlight, 1), (.cover, 2), (.outline, 3)]
        ∧ numberAt b (69 + 7 * i.val) 6 = ((m.x0 * 4096 + m.y0) * 4096 + m.x1) * 4096 + m.y1)
    ∧ byteAt b 124 = first
    ∧ numberAt b 128 2 = (crc16 (b.take 128)).toNat

/-- The check: polynomial x^16 + x^12 + x^5 + 1, initial value 0xFFFF, the bytes in order, each most significant bit
first, no final inversion (R154, R176). -/
def Sys2Proof.Says.CheckIsCrc : Prop :=
  ∀ b : List Byte,
    crc16 b = (bitsOf b).foldl (fun (c : BitVec 16) bit => (c <<< 1) ^^^ if c.msb = bit then 0#16 else 0x1021#16) 0xFFFF

/-- The page image by offset (R155): the 130 bytes written spell the saved fields, the still flag and the first block,
with zeros where nothing is named and, the model's reading (log 16), in the rest of an empty mark position; and bytes
read are sound exactly when they spell what is read from them, values that R155 allows. -/
def Sys2Proof.Says.PageImageLayout : Prop :=
  (∀ (x : Setup) (still : Bool) (first : Nat), x.storable → first ≤ 63 →
      let b := pageBytes x still first
      b.length = 130 ∧ x.spelledBy still first b ∧ (∀ n : Nat, n < 3 → byteAt b (125 + n) = 0)
        ∧ ∀ i : Fin 8, x.marks[i] = none → ∀ n : Nat, n < 7 → byteAt b (68 + 7 * i.val + n) = 0)
    ∧ ∀ b : List Byte, b.length = 130 →
      (∀ (x : Setup) (still : Bool) (first : Nat), x.storable → first ≤ 63 →
        (x.spelledBy still first b ↔
          pageSound b = true ∧ pageSetup b = x ∧ flagged b 5 = still ∧ byteAt b 124 = first))
      ∧ (pageSound b = true → (pageSetup b).storable ∧ byteAt b 124 ≤ 63)

/-- A page image written and read back, at every place that lies below the picture region, as all 32 do: it is sound,
and spells the saved fields, the still flag and the first block it was made from (R154, R155). An image that reached
the picture region would not read back (the model's choice, log 8). -/
def Sys2Proof.Says.PageImageReadsBack : Prop :=
  ∀ (a : Area) (k : Nat) (x : Setup) (still : Bool) (first : Nat), a.answers = true → x.storable →
    first ≤ 63 →
    (128 + 130 * k + 130 ≤ 8192 →
        (a.writePage k x still first).readPage k = some (pageBytes x still first))
      ∧ (8192 < 128 + 130 * k + 130 → (a.writePage k x still first).readPage k = none)
      ∧ pageSetup (pageBytes x still first) = x ∧ flagged (pageBytes x still first) 5 = still
      ∧ byteAt (pageBytes x still first) 124 = first

/-- Header values that R155 allows. -/
def Sys2Proof.Machine.HeaderVals.storable (h : HeaderVals) : Prop :=
  h.sums ∧ (∀ t, h.label = some t → isLabel t) ∧ h.blocks ≤ 64
    ∧ ∀ e : DirEntry, some e ∈ h.dir → 1 ≤ e.blocks ∧ e.blocks ≤ 12

/-- The header by offset (R155): the 124 bytes written from area offset 4 on spell the header values, with zeros where
nothing is named and, the model's reading (log 16), in the spare bits of a directory entry and in the second byte of one
that is 0; and bytes read, 4..101, are sound exactly when they spell what is read from them, values that R155 allows. -/
def Sys2Proof.Says.HeaderLayout : Prop :=
  ∀ l : Fin 8,
    (∀ h : HeaderVals, h.storable →
      let b := headerBytes l h
      b.length = 124 ∧ h.spelledBy l b ∧ byteAt b (35 - 4) = 0
        ∧ (∀ x : Nat, 102 ≤ x → x < 128 → byteAt b (x - 4) = 0)
        ∧ ∀ k : Nat, k < 32 → byteAt b (37 + 2 * k - 4) < 32
          ∧ (h.dir.getD k none = none → byteAt b (37 + 2 * k - 4) = 0))
    ∧ ∀ b : List Byte, b.length = 98 →
      (∀ h : HeaderVals, h.storable →
        (h.spelledBy l b ↔ headerSound l b = true ∧ headerVals b = h))
      ∧ (headerSound l b = true → (headerVals b).storable)

/-- A header written and read back is the header, and with a valid marker the area reads as that descriptor (R154
to R156). -/
def Sys2Proof.Says.HeaderReadsBack : Prop :=
  ∀ (a : Area) (l : Fin 8) (h : HeaderVals), a.answers = true → h.storable →
    (a.writeHeader l h).readHeader l = some h
      ∧ (a.writeHeader l h).writeMarker.describe l = ⟨true, true, some h⟩

/-! ### Control link and attention (R176 to R188) -/

/-- The bytes of a telegram before its check, and with it (R176). -/
def Sys2Proof.Machine.Telegram.core (t : Telegram) : List Byte :=
  [t.tag0, t.tag1, t.control, t.kind, t.value0, t.value1, BitVec.ofNat 8 t.payload.length] ++ t.payload

/-- A telegram as it is shifted in: its bytes and its check, most significant byte first (R176). -/
def Sys2Proof.Machine.Telegram.wire (t : Telegram) : List Byte :=
  t.core ++ [(crc16 t.core).extractLsb' 8 8, (crc16 t.core).extractLsb' 0 8]

/-- The state after a select period of n bytes that is a telegram: zeros were shifted out (R177). -/
def Sys2Proof.Machine.State.shifted (s : State) (n : Nat) : State :=
  { s with link := { s.link with dataOut := List.replicate n 0 } }

/-- A framed telegram, extra bytes and the bits of a part byte at the end discarded: it joins a queue below 4, waits
behind a full one with the ready line low, or takes the buffer from the telegram waiting there, which is lost with
OVERRUN (R177 to R179). -/
def Sys2Proof.Says.FramedTelegramsQueue : Prop :=
  ∀ (s : State) (t : Telegram) (extra : List Byte) (part : List Bool), t.payload.length ≤ 60 →
    t.tag0 ≠ 0xF0 → part.length < 8 →
    let b := t.wire ++ extra
    let u := s.shifted b.length
    (s.link.intake.length < 4 →
        exec (.telegramReceived (bitsOf b ++ part)) s =
          .next { u with link := { u.link with intake := s.link.intake ++ [t] } })
      ∧ (4 ≤ s.link.intake.length → s.link.assembly = none →
        exec (.telegramReceived (bitsOf b ++ part)) s =
          .next { u with link := { u.link with assembly := some t, ready := false } })
      ∧ (4 ≤ s.link.intake.length → s.link.assembly.isSome →
        exec (.telegramReceived (bitsOf b ++ part)) s =
          .next { u with link := { u.link with
            assembly := some t, ready := false, status := s.link.status ||| Flag.only .overrun } })

/-- A select period without a whole byte is disregarded; a telegram without a length field, with a length above 60,
too short, or with a check that does not agree is dropped with LINK_ERROR. The bits of a part byte at the end count
for nothing (R177, R178). -/
def Sys2Proof.Says.UnframedTelegramsDrop : Prop :=
  ∀ (s : State) (b : List Byte) (part : List Bool), part.length < 8 →
    exec (.telegramReceived part) s = .next s
      ∧ (b ≠ [] → b.head? ≠ some 0xF0 →
        (b.length < 7 ∨ (∃ n, b[6]? = some n ∧ (60 < n.toNat ∨ b.length < 9 + n.toNat
          ∨ (b.drop (7 + n.toNat)).take 2 ≠
            [(crc16 (b.take (7 + n.toNat))).extractLsb' 8 8,
              (crc16 (b.take (7 + n.toNat))).extractLsb' 0 8]))) →
        exec (.telegramReceived (bitsOf b ++ part)) s =
          .next { s.shifted b.length with
            link := { (s.shifted b.length).link with status := s.link.status ||| Flag.only .linkError } })

/-- A fetch of n bits after the marker gives that many whole bytes of the oldest reply and removes it, however few they
are, with 0x00 past its last byte; on an empty queue it gives the empty marker (R176, R177, R181). The byte of the
marker's own period and the bytes of a payload are not the spec's (log 6): the frame is written out around a payload of
at most 250 bytes, empty for a reply without one. -/
def Sys2Proof.Says.FetchTakesOldestReply : Prop :=
  ∀ (s : State) (n : Nat),
    (s.link.replies = [] → ∃ x : Byte,
        exec (.fetch n) s = .next { s with link := { s.link with dataOut := x :: List.replicate (n / 8) 0 } })
      ∧ ∀ (r : Reply) (rest : List Reply), s.link.replies = r :: rest →
        ∃ x : Byte, ∃ payload : List Byte, payload.length ≤ 250
          ∧ (r.answer.body = .empty → payload = [])
          ∧ (let core := [r.tag0, r.tag1, BitVec.ofNat 8 r.answer.code.num,
              BitVec.ofNat 8 payload.length] ++ payload
            let frame := core ++ [(crc16 core).extractLsb' 8 8, (crc16 core).extractLsb' 0 8]
            exec (.fetch n) s =
              .next { s with link := { s.link with
                replies := rest, dataOut := x :: (frame ++ List.replicate (n / 8) 0).take (n / 8) } })

/-- A select period whose first byte is the fetch marker is a fetch: TELEGRAM_RECEIVED with the marker, whole bytes and
the bits of a part byte does what FETCH does with the bits after the marker (R176, R177). That the two rows meet so is
the model's reading (DEDUCED, log 27). -/
def Sys2Proof.Says.FetchMarkerFetches : Prop :=
  ∀ (s : State) (rest : List Byte) (part : List Bool), part.length < 8 →
    exec (.telegramReceived (bitsOf (0xF0 :: rest) ++ part)) s = exec (.fetch (8 * rest.length + part.length)) s

/-- The result codes are their places in the table (R176). -/
def Sys2Proof.Says.ResultCodePlaces : Prop :=
  [ResultCode.ok, .accepted, .busy, .stale, .locked, .level, .full, .noStill, .referenced, .range, .state,
      .dirty, .target, .argument, .unknown, .partialDone].map ResultCode.num = List.range 16

/-- The state once the head telegram has left the intake queue, and a telegram waiting in the assembly buffer
has taken the place (R179, R180). -/
def Sys2Proof.Machine.State.headTaken (s : State) : State :=
  { s with
    link := { s.link with
      intake := s.link.intake.tail ++ s.link.assembly.toList
      assembly := none
      ready := s.link.ready || s.link.assembly.isSome } }

/-- The state once a telegram's reply is made: it joins the queue under its reply mode, with REPLY_READY where
the queue was empty (R181). -/
def Sys2Proof.Machine.State.replied (u : State) (t : Telegram) (a : Answer) : State :=
  if t.control.getLsbD 7 = true ∧ (a.code = .ok ∨ a.code = .accepted) then u
  else
    { u with
      link := { u.link with
        replies := u.link.replies ++ [⟨t.tag0, t.tag1, a⟩]
        status := if u.link.replies = [] then u.link.status ||| Flag.only .replyReady
          else u.link.status } }

/-- A refusal at dispatch: the answer, and its reply, which every mode queues (R180, R181). That a GROUP or ALLPAGES
telegram refused here has an empty reply payload is the model's choice (DESIGN CHOICE, log 35). -/
def Sys2Proof.Machine.State.refusedAtDispatch (s : State) (t : Telegram) (c : ResultCode) : State :=
  ({ s.headTaken with link := { s.headTaken.link with answer := some ⟨c, .empty⟩ } }).replied t ⟨c, .empty⟩

/-- The PAGE commands by tag, with the numbers of the target kinds each accepts: 0 NONE, 1 PAGE, 2 LESSON, 3 GROUP,
4 ALLPAGES, 5 VIEWS (R176, R22, and the heading and Target line of each command's section). -/
def Sys2Proof.Machine.pageRows : List (Char × Char × Command × List Nat) :=
  [('P', 'N', .pageNew, [0]), ('P', 'V', .pageSave, [0]), ('P', 'C', .pageCopy, [1]),
    ('P', 'T', .pageSet, [1]), ('P', 'Z', .pageZone, [1, 3, 4]), ('P', 'M', .pageMarks, [1]),
    ('P', 'X', .pageMarkclear, [1, 3, 4]), ('P', 'S', .pageSign, [1]), ('P', 'L', .pageLock, [1, 3, 4]),
    ('P', 'G', .pageGroup, [1]), ('P', 'R', .pageRetire, [1, 3, 4]), ('P', 'Q', .pageRead, [1])]

/-- The LESSON commands so. -/
def Sys2Proof.Machine.lessonRows : List (Char × Char × Command × List Nat) :=
  [('L', 'A', .lessonActivate, [0, 2]), ('L', 'O', .lessonOpen, [2]), ('L', 'T', .lessonSet, [2]),
    ('L', 'P', .lessonPlace, [1]), ('L', 'M', .lessonMove, [2]), ('L', 'R', .lessonRemove, [2]),
    ('L', 'S', .lessonStep, [0]), ('L', 'Q', .lessonRead, [2]), ('L', 'V', .lessonEvict, [2]),
    ('L', 'C', .lessonCommit, [2]), ('L', 'D', .lessonLoad, [2]), ('L', 'B', .lessonAbandon, [2]),
    ('L', 'E', .lessonErase, [2])]

/-- The STILL, FIND, MATCH and DETAIL commands so. -/
def Sys2Proof.Machine.storeRows : List (Char × Char × Command × List Nat) :=
  [('S', 'F', .stillFreeze, [1]), ('S', 'D', .stillDrop, [1, 3, 4]), ('S', 'Q', .stillRead, [0]),
    ('F', 'S', .findSetup, [0]), ('F', 'R', .findRead, [0]), ('F', 'C', .findClear, [0]),
    ('M', 'S', .matchSetup, [0]), ('M', 'T', .matchTry, [0, 2]), ('D', 'T', .detailTable, [0]),
    ('D', 'L', .detailLight, [0]), ('D', 'R', .detailRead, [0, 5])]

/-- The VIEW, PORT and CYCLE commands so. -/
def Sys2Proof.Machine.viewRows : List (Char × Char × Command × List Nat) :=
  [('V', 'S', .viewSelect, [5]), ('V', 'F', .viewFallback, [5]), ('V', 'Z', .viewZoom, [5]),
    ('V', 'P', .viewPan, [5]), ('V', 'R', .viewRoute, [5]), ('V', 'M', .viewMode, [5]),
    ('V', 'T', .viewTake, [5]), ('V', 'Q', .viewRead, [5]), ('O', 'S', .portStart, [5]),
    ('O', 'P', .portStop, [5]), ('O', 'R', .portReset, [5]), ('O', 'Q', .portRead, [5]),
    ('C', 'W', .cycleWrite, [5]), ('C', 'N', .cycleLength, [5]), ('C', 'C', .cycleClear, [5])]

/-- The LENS, BRIDGE and DEV commands so. -/
def Sys2Proof.Machine.deviceRows : List (Char × Char × Command × List Nat) :=
  [('N', 'S', .lensSetup, [0]), ('B', 'W', .bridgeWrite, [0]), ('B', 'R', .bridgeRead, [0]),
    ('B', 'Q', .bridgeResult, [0]), ('D', 'C', .devCeiling, [0]), ('D', 'M', .devMask, [0]),
    ('D', 'S', .devStatus, [0]), ('D', 'A', .devAck, [0]), ('D', 'I', .devIdent, [0]),
    ('D', 'X', .devReset, [0])]

/-- The commands by tag. -/
def Sys2Proof.Machine.commandRows : List (Char × Char × Command × List Nat) :=
  pageRows ++ lessonRows ++ storeRows ++ viewRows ++ deviceRows

/-- DISPATCH with a full reply queue waits, and with an empty intake queue changes nothing (the latter the model's
choice, log 4); then, in order: a tag that is in no row of the commands is UNKNOWN, a level above the ceiling LEVEL, a
target kind that is not one of the row's, one above 5 with them, TARGET, and a payload whose length is no form of the
command's ARGUMENT (R22, R180). -/
def Sys2Proof.Says.DispatchChecks : Prop :=
  ∀ s : State,
    ((s.link.intake = [] ∨ 4 ≤ s.link.replies.length) → exec .dispatch s = .next s)
      ∧ ∀ (t : Telegram) (rest : List Telegram), s.link.intake = t :: rest → s.link.replies.length < 4 →
        ((∀ e ∈ commandRows, ¬ (t.tag0.toNat = e.1.toNat ∧ t.tag1.toNat = e.2.1.toNat)) →
            exec .dispatch s = .next (s.refusedAtDispatch t .unknown))
          ∧ ∀ e ∈ commandRows, t.tag0.toNat = e.1.toNat → t.tag1.toNat = e.2.1.toNat →
            (s.link.ceiling.rank < t.control.toNat % 4 →
                exec .dispatch s = .next (s.refusedAtDispatch t .level))
              ∧ (t.control.toNat % 4 ≤ s.link.ceiling.rank → t.kind.toNat ∉ e.2.2.2 →
                exec .dispatch s = .next (s.refusedAtDispatch t .target))
              ∧ (t.control.toNat % 4 ≤ s.link.ceiling.rank → t.kind.toNat ∈ e.2.2.2 →
                e.2.2.1.lengthOk t = false → exec .dispatch s = .next (s.refusedAtDispatch t .argument))

/-- The payload lengths of the commands (R180 step 4). That a set of eight, a lock and a level are one byte, the flags
three, and the items of DETAIL.TABLE, DETAIL.LIGHT and the bridge commands one byte each is the model's inference (log
5); for the commands not named a payload is not empty where it must carry an item, and its other lengths are left open
(log 5). -/
def Sys2Proof.Says.PayloadLengths : Prop :=
  ∀ t : Telegram,
    (∀ c ∈ [Command.pageRetire, .pageRead, .lessonActivate, .lessonRead, .lessonCommit, .lessonLoad,
        .lessonAbandon, .lessonErase, .stillDrop, .stillRead, .findRead, .findClear, .detailRead, .viewTake,
        .viewRead, .portStop, .portReset, .portRead, .cycleClear, .bridgeResult, .devStatus, .devIdent,
        .devReset], (c.lengthOk t = true ↔ t.payload = []))
      ∧ (∀ c ∈ [Command.pageGroup, .pageMarkclear, .pageLock, .devCeiling],
        (c.lengthOk t = true ↔ t.payload.length = 1))
      ∧ (∀ c ∈ [Command.devMask, .devAck, .bridgeRead], (c.lengthOk t = true ↔ t.payload.length = 3))
      ∧ (Command.detailTable.lengthOk t = true ↔
        ∃ n : Nat, 1 ≤ n ∧ n ≤ 29 ∧ t.payload.length = 2 + 2 * n)
      ∧ (Command.detailLight.lengthOk t = true ↔ ∃ n : Nat, 1 ≤ n ∧ n ≤ 16 ∧ t.payload.length = 2 + n)
      ∧ (Command.bridgeWrite.lengthOk t = true ↔ ∃ n : Nat, 1 ≤ n ∧ n ≤ 8 ∧ t.payload.length = 2 + n)
      ∧ ∀ c : Command, t.payload = [] →
        (c ∈ [Command.pageNew, .pageSave, .pageCopy, .lessonOpen, .lessonEvict, .matchTry, .portStart] →
            c.lengthOk t = true)
          ∧ (c ∈ [Command.pageSet, .pageZone, .pageMarks, .pageSign, .lessonSet, .lessonPlace, .lessonMove,
              .lessonRemove, .lessonStep, .stillFreeze, .findSetup, .matchSetup, .viewSelect, .viewFallback,
              .viewZoom, .viewPan, .viewRoute, .viewMode, .cycleWrite, .cycleLength, .lensSetup] →
            c.lengthOk t = false)

/-- The rows of telegrams without a payload: tag, target kind, and the row that the owning block executes with
the telegram's level and target (R176, R180). -/
def Sys2Proof.Machine.rowsWithoutPayload (t : Telegram) (lvl : Level) : List (Char × Char × Nat × Instr) :=
  [('P', 'R', 1, .pageRetire lvl (.page ⟨t.value0, t.value1⟩)),
    ('P', 'R', 3, .pageRetire lvl (.group t.value0.toNat)), ('P', 'R', 4, .pageRetire lvl .allPages),
    ('P', 'Q', 1, .pageRead ⟨t.value0, t.value1⟩), ('L', 'A', 0, .lessonActivate none),
    ('L', 'A', 2, .lessonActivate (some t.value0.toNat)), ('L', 'Q', 2, .lessonRead t.value0.toNat),
    ('L', 'V', 2, .lessonEvict lvl t.value0.toNat .keep), ('L', 'C', 2, .lessonCommit lvl t.value0.toNat),
    ('L', 'D', 2, .lessonLoad lvl t.value0.toNat), ('L', 'B', 2, .lessonAbandon lvl t.value0.toNat),
    ('L', 'E', 2, .lessonErase lvl t.value0.toNat), ('P', 'N', 0, .pageNew lvl none),
    ('P', 'V', 0, .pageSave lvl ⟨none, none, none⟩), ('P', 'C', 1, .pageCopy lvl ⟨t.value0, t.value1⟩ none),
    ('L', 'O', 2, .lessonOpen lvl t.value0.toNat ⟨none, none⟩), ('M', 'T', 0, .matchTry none none),
    ('M', 'T', 2, .matchTry (some t.value0.toNat) none), ('S', 'D', 3, .stillDrop lvl (.group t.value0.toNat)),
    ('S', 'D', 4, .stillDrop lvl .allPages),
    ('S', 'D', 1, .stillDrop lvl (.page ⟨t.value0, t.value1⟩)), ('S', 'Q', 0, .stillRead),
    ('F', 'R', 0, .findRead), ('F', 'C', 0, .findClear), ('D', 'R', 0, .detailReadTables),
    ('D', 'R', 5, .detailReadBandSet t.value0), ('V', 'T', 5, .viewTake t.value0),
    ('V', 'Q', 5, .viewRead t.value0), ('O', 'S', 5, .portStart lvl t.value0 none),
    ('O', 'P', 5, .portStop lvl t.value0), ('O', 'R', 5, .portReset lvl t.value0),
    ('O', 'Q', 5, .portRead t.value0), ('C', 'C', 5, .cycleClear t.value0), ('B', 'Q', 0, .bridgeResult),
    ('D', 'S', 0, .devStatus (if t.control.getLsbD 7 then .errors else .always)), ('D', 'I', 0, .devIdent)]

/-- The rows of telegrams with a payload: tag, target kind, the command, and the row that the owning block executes with
the telegram's level, target and items. Which bytes spell which item is open (log 5): `Config.forms` is a constant the
model knows nothing of, but for the one and three byte payloads. -/
def Sys2Proof.Machine.rowsWithPayload (t : Telegram) (lvl : Level) :
    List (Char × Char × Nat × Command × Instr) :=
  let f := Config.forms
  let p := t.payload
  let page : PageRef := ⟨t.value0, t.value1⟩
  let n := t.value0.toNat
  let byte := p.getD 0 0
  let flags : BitVec 24 :=
    BitVec.ofNat 24 (65536 * (p.getD 0 0).toNat + 256 * (p.getD 1 0).toNat + (p.getD 2 0).toNat)
  [('P', 'N', 0, .pageNew, .pageNew lvl (some (f.placement p))), ('P', 'V', 0, .pageSave, .pageSave lvl (f.save p)),
    ('P', 'C', 1, .pageCopy, .pageCopy lvl page (some (f.placement p))),
    ('P', 'T', 1, .pageSet, .pageSet lvl page (f.set p)),
    ('P', 'Z', 1, .pageZone, .pageZone lvl (.page page) (f.zone p)),
    ('P', 'Z', 3, .pageZone, .pageZone lvl (.group n) (f.zone p)),
    ('P', 'Z', 4, .pageZone, .pageZone lvl .allPages (f.zone p)),
    ('P', 'M', 1, .pageMarks, .pageMarks lvl page (f.marks p)),
    ('P', 'X', 1, .pageMarkclear, .pageMarkclear lvl (.page page) byte),
    ('P', 'X', 3, .pageMarkclear, .pageMarkclear lvl (.group n) byte),
    ('P', 'X', 4, .pageMarkclear, .pageMarkclear lvl .allPages byte),
    ('P', 'S', 1, .pageSign, .pageSign lvl page (f.sign p)),
    ('P', 'L', 1, .pageLock, .pageLock lvl (.page page) byte.toNat),
    ('P', 'L', 3, .pageLock, .pageLock lvl (.group n) byte.toNat),
    ('P', 'L', 4, .pageLock, .pageLock lvl .allPages byte.toNat),
    ('P', 'G', 1, .pageGroup, .pageGroup lvl page byte),
    ('S', 'F', 1, .stillFreeze, .stillFreeze lvl page (f.freeze p)),
    ('L', 'O', 2, .lessonOpen, .lessonOpen lvl n (f.lessonOpen p)),
    ('L', 'T', 2, .lessonSet, .lessonSet lvl n (f.lessonSet p)),
    ('L', 'P', 1, .lessonPlace, .lessonPlace lvl page (f.placement p)),
    ('L', 'M', 2, .lessonMove, .lessonMove lvl n (f.move p).1 (f.move p).2),
    ('L', 'R', 2, .lessonRemove, .lessonRemove lvl n (f.remove p)),
    ('L', 'S', 0, .lessonStep, .lessonStep (f.step p)), ('L', 'V', 2, .lessonEvict, .lessonEvict lvl n (f.evict p)),
    ('F', 'S', 0, .findSetup, .findSetup lvl (f.find p)), ('M', 'S', 0, .matchSetup, .matchSetup lvl (f.matcher p)),
    ('M', 'T', 0, .matchTry, .matchTry none (some (f.probe p))),
    ('M', 'T', 2, .matchTry, .matchTry (some n) (some (f.probe p))),
    ('D', 'T', 0, .detailTable, .detailTable lvl (f.table p)),
    ('D', 'L', 0, .detailLight, .detailLight lvl (f.light p)),
    ('V', 'S', 5, .viewSelect, .viewSelect t.value0 (f.select p)),
    ('V', 'F', 5, .viewFallback, .viewFallback lvl t.value0 (f.fallback p)),
    ('V', 'Z', 5, .viewZoom, .viewZoom t.value0 (f.zoom p)),
    ('V', 'P', 5, .viewPan, .viewPan t.value0 (f.pan p).1 (f.pan p).2),
    ('V', 'R', 5, .viewRoute, .viewRoute lvl t.value0 (f.route p)),
    ('V', 'M', 5, .viewMode, .viewMode t.value0 (f.mode p)),
    ('O', 'S', 5, .portStart, .portStart lvl t.value0 (some (f.rate p))),
    ('C', 'W', 5, .cycleWrite, .cycleWrite t.value0 (f.cycle p)),
    ('C', 'N', 5, .cycleLength, .cycleLength t.value0 (f.cycleLength p)),
    ('N', 'S', 0, .lensSetup, .lensSetup lvl (f.lens p)),
    ('B', 'W', 0, .bridgeWrite, .bridgeWrite lvl (f.bridgeWrite p)),
    ('B', 'R', 0, .bridgeRead, .bridgeRead lvl (some (f.bridgeRead p))),
    ('D', 'C', 0, .devCeiling, .devCeiling byte.toNat), ('D', 'M', 0, .devMask, .devMask flags),
    ('D', 'A', 0, .devAck, .devAck flags)]

/-- A telegram with a payload whose length is a form of its command is executed by its owning block, as its row is, and
its reply is made; any other length is ARGUMENT (R176, R180, R181). -/
def Sys2Proof.Says.DispatchReadsPayload : Prop :=
  ∀ (s : State) (t : Telegram) (rest : List Telegram) (lvl : Level), s.link.intake = t :: rest →
    s.link.replies.length < 4 → t.payload ≠ [] → t.control.toNat % 4 = lvl.rank →
    lvl.rank ≤ s.link.ceiling.rank →
    ∀ e ∈ rowsWithPayload t lvl, t.tag0.toNat = e.1.toNat → t.tag1.toNat = e.2.1.toNat →
      t.kind.toNat = e.2.2.1 →
      if e.2.2.2.1.lengthOk t = true then
        ∃ (u : State) (a : Answer), exec e.2.2.2.2 s.headTaken = .next u ∧ u.link.answer = some a
          ∧ exec .dispatch s = .next (u.replied t a)
      else exec .dispatch s = .next (s.refusedAtDispatch t .argument)

/-- A telegram that passes the checks at dispatch is executed by its owning block, as its row is, and its reply
is made; an accepted DEV.RESET makes none (R180, R181, R188). -/
def Sys2Proof.Says.DispatchRunsOwningBlock : Prop :=
  ∀ (s : State) (t : Telegram) (rest : List Telegram) (lvl : Level), s.link.intake = t :: rest →
    s.link.replies.length < 4 → t.payload = [] → t.control.toNat % 4 = lvl.rank →
    lvl.rank ≤ s.link.ceiling.rank →
    (∀ e ∈ rowsWithoutPayload t lvl, t.tag0.toNat = e.1.toNat → t.tag1.toNat = e.2.1.toNat →
        t.kind.toNat = e.2.2.1 →
        ∃ (u : State) (a : Answer), exec e.2.2.2 s.headTaken = .next u ∧ u.link.answer = some a
          ∧ exec .dispatch s = .next (u.replied t a))
      ∧ (t.tag0.toNat = 'D'.toNat → t.tag1.toNat = 'X'.toNat → t.kind.toNat = 0 →
        Level.owner.rank ≤ lvl.rank →
        exec .dispatch s = exec (.devReset lvl) s.headTaken)

/-- ADMIN edges and DEV.CEILING: a negation lowers a ceiling of ADMIN to OWNER, an assertion changes no ceiling,
and a raise is accepted while the line is asserted (R182). -/
def Sys2Proof.Says.CeilingFollowsAdminLine : Prop :=
  ∀ s : State,
    exec .adminAssertion s = .next { s with link := { s.link with adminLine := true } }
      ∧ exec .adminNegation s =
        .next { s with link := { s.link with
          adminLine := false
          ceiling := if s.link.ceiling = .admin then .owner else s.link.ceiling } }
      ∧ (∀ n : Nat, 2 < n → exec (.devCeiling n) s = answers s .range .empty)
      ∧ ∀ l : Level, exec (.devCeiling l.rank) s =
        if s.link.ceiling.rank < l.rank ∧ s.link.adminLine = false then answers s .state .empty
        else answers { s with link := { s.link with ceiling := l } } .ok (.ceiling l)

/-- The bit of a flag of the table (R183). -/
def Sys2Proof.Says.FlagBits : Prop :=
  [Flag.settled, .recalled, .unmatched, .freezeDone, .freezeAborted, .stillFull, .commitDone, .loadDone,
      .opFailed, .retired, .bridgeDone, .focusDone, .linkError, .overrun, .replyReady, .sensorLost, .quality,
      .strmStalled, .lensFault].map Flag.bit = List.range 19

/-- The mask and the attention line: the line is asserted exactly when a set flag has its mask bit set; DEV.MASK
replaces the mask, and a bit above 18 is RANGE (R184). -/
def Sys2Proof.Says.MaskAndAttentionLine : Prop :=
  ∀ (s : State) (bits : BitVec 24),
    (s.attentionLine = true ↔ ∃ n : Nat, s.link.status.getLsbD n = true ∧ s.link.mask.getLsbD n = true)
      ∧ exec (.devMask bits) s =
        (if 2 ^ 19 ≤ bits.toNat then answers s .range .empty
        else answers { s with link := { s.link with mask := bits.setWidth 19 } } .ok .empty)

/-- DEV.STATUS returns the flags and the link's state; the condition flags are cleared with the reply, which
reply mode ERRORS does not queue (R185). -/
def Sys2Proof.Says.StatusReadClearsConditions : Prop :=
  ∀ s : State,
    let reply : ReplyBody := .status
      { status := s.link.status
        mask := s.link.mask
        ceiling := s.link.ceiling
        adminLine := s.link.adminLine
        intakeCount := s.link.intake.length
        assemblyOccupied := s.link.assembly.isSome
        replyCount := s.link.replies.length }
    exec (.devStatus .always) s =
        answers { s with link := { s.link with status := s.link.status &&& 0x7FFF } } .ok reply
      ∧ exec (.devStatus .errors) s = answers s .ok reply

/-- DEV.ACK clears the named event flags and no condition flag; a bit above 18 is RANGE (R186). -/
def Sys2Proof.Says.AckClearsEvents : Prop :=
  ∀ (s : State) (bits : BitVec 24),
    (2 ^ 19 ≤ bits.toNat → exec (.devAck bits) s = answers s .range .empty)
      ∧ (bits.toNat < 2 ^ 19 →
        ∃ t : State, exec (.devAck bits) s = answers t .ok .empty
          ∧ t = { s with link := { s.link with status := t.link.status } }
          ∧ ∀ n : Nat, t.link.status.getLsbD n =
            (s.link.status.getLsbD n && !(decide (n < 15) && bits.getLsbD n)))

/-- DEV.IDENT returns the part code, the revision and the capacities (R187). -/
def Sys2Proof.Says.IdentReturnsCapacities : Prop :=
  ∀ s : State, exec .devIdent s =
    answers s .ok
      (.ident
        { part := 0x6412, revision := 1, records := 64, lessons := 8, pagesPerLesson := 32, slots := 24,
          blocks := 64, views := 3, cycleEntries := 12 })

/-! ### Resets -/

/-- The machine right after power-on reset: the values the spec gives (R7, R30, R48, R65, R70, R90, R102, R115,
R135, R156, R169, R188). That no lesson is stored is the model's choice, as the spec gives the flash no contents
(DESIGN CHOICE, unsafe, log 8). -/
def Sys2Proof.Says.ResetValues : Prop :=
  let s := State.reset
  s.page 0 = { Record.blank 0 with st := .opened }
    ∧ (∀ i : Fin 64, i ≠ 0 → s.page i = Record.blank 0)
    ∧ (∀ l : Fin 8, s.lesson l = Lesson.absent false false) ∧ s.active = none
    ∧ (∀ k : Fin 24, (s.slot k).st = .free ∧ (s.slot k).blocks = 0 ∧ (s.slot k).holds = 0
      ∧ (s.slot k).record = none ∧ (s.slot k).source = none ∧ (s.slot k).phase = none)
    ∧ s.freeBlocks = 64
    ∧ s.sin = { st := .waiting, good := 0, lastGood := none, timer := 0, inProgress := false }
    ∧ s.pfd.st = .noSignal ∧ s.pfd.liveCorners = none ∧ s.pfd.liveSig = none ∧ s.pfd.latest = none
    ∧ s.pfd.stable = 0 ∧ s.pfd.missing = 0 ∧ s.pfd.flags = ⟨false, false, false, false⟩
    ∧ s.pfd.focusLowHeld = false ∧ s.pfd.report = ⟨false, false, false, false⟩ ∧ s.pfd.hasPrevious = false
    ∧ s.pfd.darkCount = 0 ∧ s.pfd.brightCount = 0 ∧ s.pfd.busyPolls = 0
    ∧ s.pfd.lamp = 8 ∧ s.pfd.syncPending = true ∧ s.pfd.run = .idle ∧ s.pfd.outcome = .none
    ∧ s.pfd.settings = ⟨8, 4, 24, 80, 3, 14, 5, .settle, .perFrame⟩
    ∧ s.matchOn = false ∧ s.tolerance = 1
    ∧ (∀ k : Fin 32, s.dte.table[k] = ⟨BitVec.ofNat 8 (64 + 4 * k.val), 16⟩)
    ∧ (∀ l : Fin 16, s.dte.light[l] = if l.val ≤ 2 then -16 else 0)
    ∧ (∀ v : ViewId, s.dte.bandSets.get v = none ∧ (s.view v).staged = (s.view v).current
      ∧ (s.view v).current =
        { sel := .live, follow := false, target := 256, rate := 8, panX := 2048, panY := 2048,
          route := .normal, marksShown := true, steady := false }
      ∧ (s.view v).applyMode = .atFrame ∧ (s.view v).armed = false ∧ (s.view v).zoom = 256
      ∧ (s.view v).dither = 0 ∧ (s.view v).fallback = .blank ∧ (s.view v).frame = none
      ∧ (s.port v).st = .off ∧ (s.port v).frame = none ∧ (s.port v).ended = 0 ∧ (s.port v).abandoned = 0
      ∧ (s.port v).stall = 0 ∧ (s.port v).ready = false
      ∧ (s.port v).cycle = ⟨Vector.replicate 12 ⟨.blank, 1⟩, 1, 0, 1⟩)
    ∧ s.ports.proj.rate = 60 ∧ s.ports.strm.rate = 30 ∧ s.ports.panel.rate = 30
    ∧ s.op = none ∧ s.lens.bus = .idle ∧ s.lens.turn = .auto ∧ s.lens.auto = none ∧ s.lens.bridge = none
    ∧ s.lens.outcome = none ∧ s.lens.valid = 0 ∧ s.lens.buffer = Vector.replicate 8 0
    ∧ s.lens.lensAddr = 0x28 ∧ s.lens.lampAddr = 0x2C ∧ s.lens.rate = .k100 ∧ s.lens.autoLamp = false
    ∧ s.lens.autoFocus = false
    ∧ s.link.intake = [] ∧ s.link.assembly = none ∧ s.link.ready = true ∧ s.link.replies = []
    ∧ s.link.ceiling = .owner ∧ s.link.status = 0 ∧ s.link.mask = 0

/-- What both resets leave: the values of the machine after reset, over the kinds and light levels of the slots (R49),
the lesson flash, the ADMIN line and the waiting commands; the descriptors and stored flags are read from the areas
(R30, R156). The model's choices in it: the ADMIN line stands, being an input (log 10), and a stored flag is no where the
area's bytes are those of no commit (log 8). -/
def Sys2Proof.Machine.State.afterReset (s : State) (lost : Fin 8 → Bool) (lens : Lens) (dataOut : List Byte) :
    State :=
  { State.reset with
    lessons := Vector.ofFn fun l => Lesson.absent (s.areas[l].describe l).valid (lost l)
    slots := Vector.ofFn fun k =>
      { st := .free, blocks := 0, kind := (s.slot k).kind, light := (s.slot k).light, holds := 0, record := none,
        source := none, phase := none, capture := none, picture := none }
    areas := s.areas
    descs := Vector.ofFn fun l => s.areas[l].describe l
    lens := lens
    link := { Link.reset with adminLine := s.link.adminLine, dataOut := dataOut }
    pending := s.pending }

/-- POWER_ON_RESET clears every lost flag and stops the bus; DEV.RESET is refused below OWNER, keeps the lost
flags and sets that of a COMMITTING lesson, lets a transaction on the bus drain, and lets the bytes a fetch shifted out
stand (R7, R30, R169, R188). The model's choices in it: data out is empty after POWER_ON_RESET (log 29), and what the
latest transaction drove over the bus stands over a soft reset and not over a power-on (log 37); the model's counter of
held clocks stands over both (log 38); and the AUTO request being absent after a soft reset, its slot is free while a
transaction of its own drains (DESIGN CHOICE, unsafe, log 40). -/
def Sys2Proof.Says.ResetsSetEveryBlock : Prop :=
  ∀ s : State,
    exec .powerOnReset s =
        .next (s.afterReset (fun _ => false) { State.reset.lens with heldClocks := s.lens.heldClocks } [])
      ∧ exec (.devReset .presenter) s = answers s .locked .empty
      ∧ ∀ lvl : Level, Level.owner.rank ≤ lvl.rank →
        exec (.devReset lvl) s =
          .next (s.afterReset (fun l => (s.lesson l).lost || decide ((s.lesson l).st = .committing))
            { State.reset.lens with
              bus := if s.lens.bus = .idle then .idle else .draining
              carried := if s.lens.bus = .idle then none else s.lens.carried
              lines := s.lens.lines
              heldClocks := s.lens.heldClocks }
            s.link.dataOut)

/-! ### What every step keeps -/

/-- The free-block count and the blocks of all slots are 64 together, a FREE slot holds none, and a sound
header's block count is that of its directory (R48, R50, R155). -/
def Sys2Proof.Machine.State.blocksAddUp (s : State) : Prop :=
  s.freeBlocks + ((List.finRange 24).map fun k => (s.slot k).blocks).sum = 64
    ∧ (∀ k : Fin 24, (s.slot k).st = .free → (s.slot k).blocks = 0)
    ∧ ∀ (l : Fin 8) (h : HeaderVals), s.descs[l].header = some h → (h.dir.map dirBlocks).sum = h.blocks

/-- Record 0 stays as R6 says at every step. -/
def Obligations.LiveRecordIsKept : Prop :=
  ∀ s t : State, s.liveRecordKept → step s = .next t → t.liveRecordKept

/-- The Control Link's queues stay bounded, and its ready line true to its buffer, at every step (R179, R181). -/
def Obligations.LinkStaysBounded : Prop :=
  ∀ s t : State, s.link.bounded → step s = .next t → t.link.bounded

/-- Every zoom the part keeps or applies stays in 256..2048 at every step (R4, R123, R124). -/
def Obligations.ZoomsStayInRange : Prop :=
  ∀ s t : State, s.zoomsOk → step s = .next t → t.zoomsOk

/-- The bytes of the lesson flash stay listed at rising offsets, all below the picture region (R155), at every step.
The list and its form are the model's own representation of an area (log 8). -/
def Obligations.FlashStaysCanonical : Prop :=
  ∀ s t : State, s.flashCanonical → step s = .next t → t.flashCanonical

/-- The lens bus stays consistent with its requests at every step (R171 to R173). -/
def Obligations.LensStaysConsistent : Prop :=
  ∀ s t : State, s.lens.consistent → step s = .next t → t.lens.consistent

/-- Still memory adds up at every step: no block is lost or belongs to two slots (R48, R49). -/
def Obligations.StillBlocksAddUp : Prop :=
  ∀ s t : State, s.blocksAddUp → step s = .next t → t.blocksAddUp

/-- Refs, orders and the operation in flight agree with the tables at every step: every record's selection refs and
cycle refs count the fields that name it, every field names an OPEN record, orders and lesson fields agree, and the
active lesson is OPEN or COMMITTING (R24, R29, R32 to R34, R117, R157). -/
def Obligations.TablesStayInAgreement : Prop :=
  ∀ s t : State, s.tablesAgree → step s = .next t → t.tablesAgree

/-- Holds, slots and records agree at every step, over tables that agree: the holds of a record and of a slot count the
frames in flight that show it, and a slot is FREE, FILLING, READY or RELEASED as R50 says (R25, R50, R51). -/
def Obligations.StoreStaysInAgreement : Prop :=
  ∀ s t : State, s.storeAgrees → step s = .next t → t.storeAgrees

/-- The machine after reset satisfies each of the invariants. Its flash is canonical as nothing is written in it, which
is the model's choice and its own representation (log 8). -/
def Obligations.ResetSatisfiesInvariants : Prop :=
  State.reset.liveRecordKept ∧ State.reset.link.bounded ∧ State.reset.zoomsOk ∧ State.reset.flashCanonical
    ∧ State.reset.lens.consistent ∧ State.reset.blocksAddUp ∧ State.reset.storeAgrees

/-- Whether a command is a telegram's execution by its owning block, whose answer is a result code (R180). -/
def Sys2Proof.Machine.isTelegramRow : Instr → Bool
  | .powerOnReset | .telegramReceived _ | .fetch _ | .dispatch | .takeEdge | .nextEdge | .prevEdge
  | .adminNegation | .adminAssertion | .intakeFrameStart | .intakeFrameEnd _ | .intakeTimeout
  | .lensTransactionEnd _ _ | .clockHoldTimeout | .portFramePeriod _ _ | .portFrameEnd _ | .commitPhaseEnd
  | .loadPhaseEnd | .clearEnd | .flashStepFailure _ | .flashStepTimeout => false
  | _ => true

/-- A refused command changes nothing but the answer, and sets no flag but STILL_FULL (R8, R54, R180). -/
def Obligations.RefusedCommandsChangeNothing : Prop :=
  ∀ (c : Instr) (s t : State) (a : Answer), isTelegramRow c = true → exec c s = .next t →
    t.link.answer = some a → a.code ≠ .ok → a.code ≠ .accepted → a.code ≠ .partialDone →
    t = { s with link := { s.link with answer := some a, status := t.link.status } }
      ∧ (t.link.status = s.link.status
        ∨ (a.code = .noStill ∧ t.link.status = s.link.status ||| Flag.only .stillFull))

/-! ### The statements that gather several of the above -/

/-- Every command answers a next state, and an empty queue idles. -/
def Obligations.EveryCommandAnswersNext : Prop :=
  Says.EveryCommandCompletes ∧ Says.EmptyQueueIdles

/-- PAGE.NEW, PAGE.SAVE and PAGE.COPY allocate the lowest FREE record. -/
def Obligations.AllocatingCommands : Prop :=
  Says.PageNewAllocates ∧ Says.PageSaveKeepsLivePage ∧ Says.PageCopyDuplicates
    ∧ Says.AllocationRefusedWhenFull ∧ Says.PlacementRefused

/-- A freeze takes the lowest FREE slot and its blocks, or is refused. -/
def Obligations.FreezesStartFills : Prop :=
  Says.PageSaveFreezes ∧ Says.PageSaveRefusals ∧ Says.StillFreezeStartsFill ∧ Says.StillFreezeRefusals
    ∧ Says.FreezeBlockCount

/-- PAGE.SET writes the named items of an editable record, ranges checked first. -/
def Obligations.PageSetWritesItems : Prop :=
  Says.PageSetWritesNamedItems ∧ Says.PageSetRangesFirst

/-- PAGE.ZONE, PAGE.MARKCLEAR, PAGE.LOCK and PAGE.GROUP on one record. -/
def Obligations.TargetedPageEdits : Prop :=
  Says.PageTargetEdits ∧ Says.PageGroupReplacesSet ∧ Says.TargetedPayloadsRefused

/-- PAGE.MARKS wraps at position 7; PAGE.SIGN in its three forms. -/
def Obligations.MarksAndSignature : Prop :=
  Says.PageMarksWrap ∧ Says.PageSignWrites ∧ Says.MarkAndSignPayloadsRefused

/-- The checks of a record edit: index, record 0, handle, lock, commit. -/
def Obligations.EditsAreChecked : Prop :=
  Says.HandlesAreChecked ∧ Says.LockThenCommitRefuse ∧ Says.RecordEditsRefused

/-- GROUP and ALLPAGES targets treat their members in ascending order. -/
def Obligations.GroupCommands : Prop :=
  Says.GroupCommandsTreatMembers ∧ Says.MembersAsNamedSingly ∧ Says.EmptyAndWrongGroups

/-- PAGE.RETIRE takes a record out whole, or is refused. -/
def Obligations.PageRetire : Prop :=
  Says.PageRetireTakesRecordOut ∧ Says.PageRetireRefusals

/-- PAGE.READ, LESSON.READ and STILL.READ return what stands and change nothing. -/
def Obligations.TableReads : Prop :=
  Says.PageReadReturnsRecord ∧ Says.LessonReadReturnsLesson ∧ Says.StillReadReturnsStore

/-- LESSON.ACTIVATE, LESSON.OPEN and LESSON.SET. -/
def Obligations.LessonNaming : Prop :=
  Says.LessonActivateSetsActive ∧ Says.LessonOpenMakesEmptyLesson ∧ Says.LessonOpenRefusals
    ∧ Says.LessonSetWritesItems ∧ Says.LessonSetRefusals

/-- LESSON.PLACE, LESSON.MOVE and LESSON.REMOVE change an order whole. -/
def Obligations.OrderChanges : Prop :=
  Says.LessonPlaceInserts ∧ Says.LessonMoveReorders ∧ Says.LessonRemoveTakesOut ∧ Says.OrderChangesRefused

/-- LESSON.STEP, NEXT and PREV move the cursor and stage the page there. -/
def Obligations.Steps : Prop :=
  Says.StepsMoveCursorAndStage ∧ Says.StepsWithoutPages ∧ Says.StepPayloadsRefused

/-- LESSON.EVICT retires every record of the order, or is refused. -/
def Obligations.LessonEviction : Prop :=
  Says.LessonEvictUnloads ∧ Says.LessonEvictChecks ∧ Says.LessonEvictRefusals

/-- STILL.DROP releases a record's still; a completed fill replaces it. -/
def Obligations.StillsReleased : Prop :=
  Says.StillDropReleases ∧ Says.FillCompletionGivesStill

/-- Sensor intake frames start, end complete or incomplete, or do not come. -/
def Obligations.IntakeFrames : Prop :=
  Says.IntakeFrameStartBegins ∧ Says.IncompleteIntakeFrame ∧ Says.CompleteFrameMovesIntake
    ∧ Says.PageFillsComplete ∧ Says.IntakeTimeoutLosesSensor

/-- Every analysed frame moves the finder by its table, judges quality and offers lamp requests. -/
def Obligations.AnalysedFrames : Prop :=
  Says.AnalysedFrameUpdatesQuality ∧ Says.FinderFollowsStateTable ∧ Says.LampRequestsFollowCounters
    ∧ Says.SyncAtUnanalysedFrames

/-- The settle event gives record 0 its signature; the removal event stages LIVE. -/
def Obligations.SettleAndRemoval : Prop :=
  Says.SettleEventWritesRecordZero ∧ Says.SettleEventStartsFocusRun ∧ Says.TrackingWritesCorners
    ∧ Says.RemovalEventStagesLive ∧ Says.SignatureNibbles

/-- A scan finds the first agreeing page, and the matcher recalls it. -/
def Obligations.ScansAndRecall : Prop :=
  Says.ScanFindsFirstAgreement ∧ Says.MatcherActsAtSettle ∧ Says.SettleEventRunsMatcher
    ∧ Says.MatchTryReportsScan ∧ Says.MatchTryRefusals

/-- The strength of a band from its mode, entry and offset; its rows; and what the enhancement does there. -/
def Obligations.BandStrengths : Prop :=
  Says.BandStrength ∧ Says.EnhancedBands ∧ Says.BandsOfThePage ∧ Says.EnhancementActs

/-- DETAIL.TABLE, DETAIL.LIGHT, the entry of an applied zoom, and plain frames. -/
def Obligations.DetailTables : Prop :=
  Says.DetailTableWrites ∧ Says.DetailLightWrites ∧ Says.DetailEntryOfZoom ∧ Says.UnenhancedBands

/-- FIND.READ, DETAIL.READ, BRIDGE.RESULT, VIEW.READ and PORT.READ. -/
def Obligations.SettingsReads : Prop :=
  Says.FindReadReturnsFinder ∧ Says.DetailReadReturns ∧ Says.BridgeResultReturnsState
    ∧ Says.ViewAndPortReads ∧ Says.ReadsCheckTheSet

/-- FIND.SETUP, FIND.CLEAR and LENS.SETUP. -/
def Obligations.SettingsWrites : Prop :=
  Says.FindSetupWritesSettings ∧ Says.FindClearEmptiesReport ∧ Says.LensSetupWritesItems

/-- The lens bus: arbitration, bridge requests and their ends. -/
def Obligations.LensBus : Prop :=
  Says.ArbiterTakesTurns ∧ Says.BridgeCommandsQueue ∧ Says.BridgeCommandsRefused ∧ Says.TransactionsOfRequests
    ∧ Says.TransactionsOnTheBus ∧ Says.BridgeTransactionEnds ∧ Says.HeldClockEnds ∧ Says.HeldClockAndDraining

/-- VIEW.ZOOM, VIEW.PAN, VIEW.ROUTE and VIEW.MODE: checks in order and effect. -/
def Obligations.ViewStagedWrites : Prop :=
  Says.ViewZoomAndPan ∧ Says.ViewRouteStages ∧ Says.ViewModeWrites

/-- VIEW.SELECT and VIEW.FALLBACK write their field and move the selection refs, or are refused. -/
def Obligations.ViewSelections : Prop :=
  Says.ViewSelectAndFallback ∧ Says.PageSelectionsAreChecked ∧ Says.SelectionsRefused

/-- Takes arm views; an apply copies the staged half with a zoom preset. -/
def Obligations.TakesAndApplies : Prop :=
  Says.TakesArmViews ∧ Says.ApplyCopiesStagedHalf ∧ Says.FrameStartApplies

/-- The ramp step, the dithered applied zoom, and the window within the page. -/
def Obligations.RampAndAppliedZoom : Prop :=
  Says.RampStep ∧ Says.AppliedZoomAndCentre

/-- PORT.START, PORT.STOP and PORT.RESET. -/
def Obligations.PortCommands : Prop :=
  Says.PortStartRuns ∧ Says.PortStopStops ∧ Says.PortResetAbandons ∧ Says.AbortEndsEveryFill

/-- A frame start takes its holds and records its values; releases undo holds. -/
def Obligations.FrameStartsAndHolds : Prop :=
  Says.FrameStartTakesFrame ∧ Says.FrameValuesRecorded ∧ Says.PicturesComposed ∧ Says.MarksDrawn
    ∧ Says.HoldsAreReleased ∧ Says.StillFramesAreReleased ∧ Says.LastHoldOfRetiringStill

/-- STRM holds while its sink is not ready. -/
def Obligations.StreamPeriods : Prop :=
  Says.StrmFollowsSink ∧ Says.NoPeriodOutsideRunning

/-- What a frame shows: selection, route, cycle entry or fallback. -/
def Obligations.FrameSources : Prop :=
  Says.SourceFollowsSelection ∧ Says.FallbackReplacesLivePicture ∧ Says.FramesWithoutLivePicture

/-- Show cycles: counting, CYCLE.WRITE, CYCLE.LENGTH and CYCLE.CLEAR. -/
def Obligations.ShowCycles : Prop :=
  Says.CycleCountsDwell ∧ Says.CycleWriteRefused ∧ Says.CycleWriteAndClear ∧ Says.CycleClearRefused
    ∧ Says.CycleLengthWrites

/-- LESSON.COMMIT and LESSON.LOAD start their operation, or are refused. -/
def Obligations.FlashOperationsStart : Prop :=
  Says.LessonCommitStarts ∧ Says.LessonCommitRefusals ∧ Says.LessonLoadReserves ∧ Says.LessonLoadRefusals

/-- LESSON.ABANDON stops an operation; LESSON.ERASE clears an area. -/
def Obligations.AbandonAndErase : Prop :=
  Says.LessonAbandonStops ∧ Says.LessonEraseClears

/-- A page image reads back as it was written, and is laid out as R155 gives. -/
def Obligations.PageImageRoundTrip : Prop := Says.PageImageReadsBack ∧ Says.PageImageLayout

/-- A header reads back as it was written, and is laid out and checked as R154 and R155 give. -/
def Obligations.HeaderRoundTrip : Prop := Says.HeaderReadsBack ∧ Says.HeaderLayout ∧ Says.CheckIsCrc

/-- The phases of a commit write the area as it is laid out, and the last completes it. -/
def Obligations.CommitPhases : Prop :=
  Says.AreaLayout ∧ Says.CommitPhasesWriteArea ∧ Says.CommitCompletes ∧ Says.PhaseEndsWithoutOperation

/-- The phases of a load fill its records, and failures end the operation. -/
def Obligations.LoadPhases : Prop :=
  Says.LoadHeaderIsCompared ∧ Says.LoadPagesFillRecords ∧ Says.FlashStepFailures

/-- Telegrams are checked, queued or dropped; a fetch takes the oldest reply. -/
def Obligations.LinkIntake : Prop :=
  Says.FramedTelegramsQueue ∧ Says.UnframedTelegramsDrop ∧ Says.FetchTakesOldestReply
    ∧ Says.FetchMarkerFetches ∧ Says.ResultCodePlaces

/-- DISPATCH checks the head telegram and runs it at its owning block. -/
def Obligations.Dispatching : Prop :=
  Says.DispatchChecks ∧ Says.PayloadLengths ∧ Says.DispatchRunsOwningBlock ∧ Says.DispatchReadsPayload

/-- The end of a frame releases it, counts it, settles PROJ's fills and completes a stop. -/
def Obligations.FrameEndReleases : Prop :=
  Says.FrameEndCounts ∧ Says.ProjFrameEndSettlesFills

/-- The ceiling, the attention status, its mask and line, DEV.STATUS, DEV.ACK and DEV.IDENT. -/
def Obligations.DeviceCommands : Prop :=
  Says.CeilingFollowsAdminLine ∧ Says.FlagBits ∧ Says.MaskAndAttentionLine ∧ Says.StatusReadClearsConditions
    ∧ Says.AckClearsEvents ∧ Says.IdentReturnsCapacities

/-- What the machine after reset holds, and what either reset sets. -/
def Obligations.Resets : Prop :=
  Says.ResetValues ∧ Says.ResetsSetEveryBlock
end

