-- ==== Sys2Proof/Laws/State.lean ====
section
/-! SUPPORT. One lemma for each field of each basic update of State, true by rfl. -/

namespace Sys2Proof.Machine

/-! ### modPage -/

@[simp] theorem State.modPage_records (s : State) (i : Fin 64) (f : Record → Record) :
    (s.modPage i f).records = s.records.set i (f (s.page i)) := rfl
@[simp] theorem State.modPage_lessons (s : State) (i : Fin 64) (f : Record → Record) :
    (s.modPage i f).lessons = s.lessons := rfl
@[simp] theorem State.modPage_active (s : State) (i : Fin 64) (f : Record → Record) :
    (s.modPage i f).active = s.active := rfl
@[simp] theorem State.modPage_slots (s : State) (i : Fin 64) (f : Record → Record) :
    (s.modPage i f).slots = s.slots := rfl
@[simp] theorem State.modPage_freeBlocks (s : State) (i : Fin 64) (f : Record → Record) :
    (s.modPage i f).freeBlocks = s.freeBlocks := rfl
@[simp] theorem State.modPage_sin (s : State) (i : Fin 64) (f : Record → Record) :
    (s.modPage i f).sin = s.sin := rfl
@[simp] theorem State.modPage_pfd (s : State) (i : Fin 64) (f : Record → Record) :
    (s.modPage i f).pfd = s.pfd := rfl
@[simp] theorem State.modPage_matchOn (s : State) (i : Fin 64) (f : Record → Record) :
    (s.modPage i f).matchOn = s.matchOn := rfl
@[simp] theorem State.modPage_tolerance (s : State) (i : Fin 64) (f : Record → Record) :
    (s.modPage i f).tolerance = s.tolerance := rfl
@[simp] theorem State.modPage_dte (s : State) (i : Fin 64) (f : Record → Record) :
    (s.modPage i f).dte = s.dte := rfl
@[simp] theorem State.modPage_views (s : State) (i : Fin 64) (f : Record → Record) :
    (s.modPage i f).views = s.views := rfl
@[simp] theorem State.modPage_ports (s : State) (i : Fin 64) (f : Record → Record) :
    (s.modPage i f).ports = s.ports := rfl
@[simp] theorem State.modPage_areas (s : State) (i : Fin 64) (f : Record → Record) :
    (s.modPage i f).areas = s.areas := rfl
@[simp] theorem State.modPage_descs (s : State) (i : Fin 64) (f : Record → Record) :
    (s.modPage i f).descs = s.descs := rfl
@[simp] theorem State.modPage_op (s : State) (i : Fin 64) (f : Record → Record) :
    (s.modPage i f).op = s.op := rfl
@[simp] theorem State.modPage_lens (s : State) (i : Fin 64) (f : Record → Record) :
    (s.modPage i f).lens = s.lens := rfl
@[simp] theorem State.modPage_link (s : State) (i : Fin 64) (f : Record → Record) :
    (s.modPage i f).link = s.link := rfl
@[simp] theorem State.modPage_pending (s : State) (i : Fin 64) (f : Record → Record) :
    (s.modPage i f).pending = s.pending := rfl

/-! ### modLesson -/

@[simp] theorem State.modLesson_records (s : State) (l : Fin 8) (f : Lesson → Lesson) :
    (s.modLesson l f).records = s.records := rfl
@[simp] theorem State.modLesson_lessons (s : State) (l : Fin 8) (f : Lesson → Lesson) :
    (s.modLesson l f).lessons = s.lessons.set l (f (s.lesson l)) := rfl
@[simp] theorem State.modLesson_active (s : State) (l : Fin 8) (f : Lesson → Lesson) :
    (s.modLesson l f).active = s.active := rfl
@[simp] theorem State.modLesson_slots (s : State) (l : Fin 8) (f : Lesson → Lesson) :
    (s.modLesson l f).slots = s.slots := rfl
@[simp] theorem State.modLesson_freeBlocks (s : State) (l : Fin 8) (f : Lesson → Lesson) :
    (s.modLesson l f).freeBlocks = s.freeBlocks := rfl
@[simp] theorem State.modLesson_sin (s : State) (l : Fin 8) (f : Lesson → Lesson) :
    (s.modLesson l f).sin = s.sin := rfl
@[simp] theorem State.modLesson_pfd (s : State) (l : Fin 8) (f : Lesson → Lesson) :
    (s.modLesson l f).pfd = s.pfd := rfl
@[simp] theorem State.modLesson_matchOn (s : State) (l : Fin 8) (f : Lesson → Lesson) :
    (s.modLesson l f).matchOn = s.matchOn := rfl
@[simp] theorem State.modLesson_tolerance (s : State) (l : Fin 8) (f : Lesson → Lesson) :
    (s.modLesson l f).tolerance = s.tolerance := rfl
@[simp] theorem State.modLesson_dte (s : State) (l : Fin 8) (f : Lesson → Lesson) :
    (s.modLesson l f).dte = s.dte := rfl
@[simp] theorem State.modLesson_views (s : State) (l : Fin 8) (f : Lesson → Lesson) :
    (s.modLesson l f).views = s.views := rfl
@[simp] theorem State.modLesson_ports (s : State) (l : Fin 8) (f : Lesson → Lesson) :
    (s.modLesson l f).ports = s.ports := rfl
@[simp] theorem State.modLesson_areas (s : State) (l : Fin 8) (f : Lesson → Lesson) :
    (s.modLesson l f).areas = s.areas := rfl
@[simp] theorem State.modLesson_descs (s : State) (l : Fin 8) (f : Lesson → Lesson) :
    (s.modLesson l f).descs = s.descs := rfl
@[simp] theorem State.modLesson_op (s : State) (l : Fin 8) (f : Lesson → Lesson) :
    (s.modLesson l f).op = s.op := rfl
@[simp] theorem State.modLesson_lens (s : State) (l : Fin 8) (f : Lesson → Lesson) :
    (s.modLesson l f).lens = s.lens := rfl
@[simp] theorem State.modLesson_link (s : State) (l : Fin 8) (f : Lesson → Lesson) :
    (s.modLesson l f).link = s.link := rfl
@[simp] theorem State.modLesson_pending (s : State) (l : Fin 8) (f : Lesson → Lesson) :
    (s.modLesson l f).pending = s.pending := rfl

/-! ### modSlot -/

@[simp] theorem State.modSlot_records (s : State) (k : Fin 24) (f : Slot → Slot) :
    (s.modSlot k f).records = s.records := rfl
@[simp] theorem State.modSlot_lessons (s : State) (k : Fin 24) (f : Slot → Slot) :
    (s.modSlot k f).lessons = s.lessons := rfl
@[simp] theorem State.modSlot_active (s : State) (k : Fin 24) (f : Slot → Slot) :
    (s.modSlot k f).active = s.active := rfl
@[simp] theorem State.modSlot_slots (s : State) (k : Fin 24) (f : Slot → Slot) :
    (s.modSlot k f).slots = s.slots.set k (f (s.slot k)) := rfl
@[simp] theorem State.modSlot_freeBlocks (s : State) (k : Fin 24) (f : Slot → Slot) :
    (s.modSlot k f).freeBlocks = s.freeBlocks := rfl
@[simp] theorem State.modSlot_sin (s : State) (k : Fin 24) (f : Slot → Slot) :
    (s.modSlot k f).sin = s.sin := rfl
@[simp] theorem State.modSlot_pfd (s : State) (k : Fin 24) (f : Slot → Slot) :
    (s.modSlot k f).pfd = s.pfd := rfl
@[simp] theorem State.modSlot_matchOn (s : State) (k : Fin 24) (f : Slot → Slot) :
    (s.modSlot k f).matchOn = s.matchOn := rfl
@[simp] theorem State.modSlot_tolerance (s : State) (k : Fin 24) (f : Slot → Slot) :
    (s.modSlot k f).tolerance = s.tolerance := rfl
@[simp] theorem State.modSlot_dte (s : State) (k : Fin 24) (f : Slot → Slot) :
    (s.modSlot k f).dte = s.dte := rfl
@[simp] theorem State.modSlot_views (s : State) (k : Fin 24) (f : Slot → Slot) :
    (s.modSlot k f).views = s.views := rfl
@[simp] theorem State.modSlot_ports (s : State) (k : Fin 24) (f : Slot → Slot) :
    (s.modSlot k f).ports = s.ports := rfl
@[simp] theorem State.modSlot_areas (s : State) (k : Fin 24) (f : Slot → Slot) :
    (s.modSlot k f).areas = s.areas := rfl
@[simp] theorem State.modSlot_descs (s : State) (k : Fin 24) (f : Slot → Slot) :
    (s.modSlot k f).descs = s.descs := rfl
@[simp] theorem State.modSlot_op (s : State) (k : Fin 24) (f : Slot → Slot) :
    (s.modSlot k f).op = s.op := rfl
@[simp] theorem State.modSlot_lens (s : State) (k : Fin 24) (f : Slot → Slot) :
    (s.modSlot k f).lens = s.lens := rfl
@[simp] theorem State.modSlot_link (s : State) (k : Fin 24) (f : Slot → Slot) :
    (s.modSlot k f).link = s.link := rfl
@[simp] theorem State.modSlot_pending (s : State) (k : Fin 24) (f : Slot → Slot) :
    (s.modSlot k f).pending = s.pending := rfl

/-! ### modView -/

@[simp] theorem State.modView_records (s : State) (v : ViewId) (f : ViewCtx → ViewCtx) :
    (s.modView v f).records = s.records := rfl
@[simp] theorem State.modView_lessons (s : State) (v : ViewId) (f : ViewCtx → ViewCtx) :
    (s.modView v f).lessons = s.lessons := rfl
@[simp] theorem State.modView_active (s : State) (v : ViewId) (f : ViewCtx → ViewCtx) :
    (s.modView v f).active = s.active := rfl
@[simp] theorem State.modView_slots (s : State) (v : ViewId) (f : ViewCtx → ViewCtx) :
    (s.modView v f).slots = s.slots := rfl
@[simp] theorem State.modView_freeBlocks (s : State) (v : ViewId) (f : ViewCtx → ViewCtx) :
    (s.modView v f).freeBlocks = s.freeBlocks := rfl
@[simp] theorem State.modView_sin (s : State) (v : ViewId) (f : ViewCtx → ViewCtx) :
    (s.modView v f).sin = s.sin := rfl
@[simp] theorem State.modView_pfd (s : State) (v : ViewId) (f : ViewCtx → ViewCtx) :
    (s.modView v f).pfd = s.pfd := rfl
@[simp] theorem State.modView_matchOn (s : State) (v : ViewId) (f : ViewCtx → ViewCtx) :
    (s.modView v f).matchOn = s.matchOn := rfl
@[simp] theorem State.modView_tolerance (s : State) (v : ViewId) (f : ViewCtx → ViewCtx) :
    (s.modView v f).tolerance = s.tolerance := rfl
@[simp] theorem State.modView_dte (s : State) (v : ViewId) (f : ViewCtx → ViewCtx) :
    (s.modView v f).dte = s.dte := rfl
@[simp] theorem State.modView_views (s : State) (v : ViewId) (f : ViewCtx → ViewCtx) :
    (s.modView v f).views = s.views.set v (f (s.view v)) := rfl
@[simp] theorem State.modView_ports (s : State) (v : ViewId) (f : ViewCtx → ViewCtx) :
    (s.modView v f).ports = s.ports := rfl
@[simp] theorem State.modView_areas (s : State) (v : ViewId) (f : ViewCtx → ViewCtx) :
    (s.modView v f).areas = s.areas := rfl
@[simp] theorem State.modView_descs (s : State) (v : ViewId) (f : ViewCtx → ViewCtx) :
    (s.modView v f).descs = s.descs := rfl
@[simp] theorem State.modView_op (s : State) (v : ViewId) (f : ViewCtx → ViewCtx) :
    (s.modView v f).op = s.op := rfl
@[simp] theorem State.modView_lens (s : State) (v : ViewId) (f : ViewCtx → ViewCtx) :
    (s.modView v f).lens = s.lens := rfl
@[simp] theorem State.modView_link (s : State) (v : ViewId) (f : ViewCtx → ViewCtx) :
    (s.modView v f).link = s.link := rfl
@[simp] theorem State.modView_pending (s : State) (v : ViewId) (f : ViewCtx → ViewCtx) :
    (s.modView v f).pending = s.pending := rfl

/-! ### modPort -/

@[simp] theorem State.modPort_records (s : State) (v : ViewId) (f : PortCtx → PortCtx) :
    (s.modPort v f).records = s.records := rfl
@[simp] theorem State.modPort_lessons (s : State) (v : ViewId) (f : PortCtx → PortCtx) :
    (s.modPort v f).lessons = s.lessons := rfl
@[simp] theorem State.modPort_active (s : State) (v : ViewId) (f : PortCtx → PortCtx) :
    (s.modPort v f).active = s.active := rfl
@[simp] theorem State.modPort_slots (s : State) (v : ViewId) (f : PortCtx → PortCtx) :
    (s.modPort v f).slots = s.slots := rfl
@[simp] theorem State.modPort_freeBlocks (s : State) (v : ViewId) (f : PortCtx → PortCtx) :
    (s.modPort v f).freeBlocks = s.freeBlocks := rfl
@[simp] theorem State.modPort_sin (s : State) (v : ViewId) (f : PortCtx → PortCtx) :
    (s.modPort v f).sin = s.sin := rfl
@[simp] theorem State.modPort_pfd (s : State) (v : ViewId) (f : PortCtx → PortCtx) :
    (s.modPort v f).pfd = s.pfd := rfl
@[simp] theorem State.modPort_matchOn (s : State) (v : ViewId) (f : PortCtx → PortCtx) :
    (s.modPort v f).matchOn = s.matchOn := rfl
@[simp] theorem State.modPort_tolerance (s : State) (v : ViewId) (f : PortCtx → PortCtx) :
    (s.modPort v f).tolerance = s.tolerance := rfl
@[simp] theorem State.modPort_dte (s : State) (v : ViewId) (f : PortCtx → PortCtx) :
    (s.modPort v f).dte = s.dte := rfl
@[simp] theorem State.modPort_views (s : State) (v : ViewId) (f : PortCtx → PortCtx) :
    (s.modPort v f).views = s.views := rfl
@[simp] theorem State.modPort_ports (s : State) (v : ViewId) (f : PortCtx → PortCtx) :
    (s.modPort v f).ports = s.ports.set v (f (s.port v)) := rfl
@[simp] theorem State.modPort_areas (s : State) (v : ViewId) (f : PortCtx → PortCtx) :
    (s.modPort v f).areas = s.areas := rfl
@[simp] theorem State.modPort_descs (s : State) (v : ViewId) (f : PortCtx → PortCtx) :
    (s.modPort v f).descs = s.descs := rfl
@[simp] theorem State.modPort_op (s : State) (v : ViewId) (f : PortCtx → PortCtx) :
    (s.modPort v f).op = s.op := rfl
@[simp] theorem State.modPort_lens (s : State) (v : ViewId) (f : PortCtx → PortCtx) :
    (s.modPort v f).lens = s.lens := rfl
@[simp] theorem State.modPort_link (s : State) (v : ViewId) (f : PortCtx → PortCtx) :
    (s.modPort v f).link = s.link := rfl
@[simp] theorem State.modPort_pending (s : State) (v : ViewId) (f : PortCtx → PortCtx) :
    (s.modPort v f).pending = s.pending := rfl

/-! ### modLens -/

@[simp] theorem State.modLens_records (s : State) (f : Lens → Lens) :
    (s.modLens f).records = s.records := rfl
@[simp] theorem State.modLens_lessons (s : State) (f : Lens → Lens) :
    (s.modLens f).lessons = s.lessons := rfl
@[simp] theorem State.modLens_active (s : State) (f : Lens → Lens) :
    (s.modLens f).active = s.active := rfl
@[simp] theorem State.modLens_slots (s : State) (f : Lens → Lens) :
    (s.modLens f).slots = s.slots := rfl
@[simp] theorem State.modLens_freeBlocks (s : State) (f : Lens → Lens) :
    (s.modLens f).freeBlocks = s.freeBlocks := rfl
@[simp] theorem State.modLens_sin (s : State) (f : Lens → Lens) :
    (s.modLens f).sin = s.sin := rfl
@[simp] theorem State.modLens_pfd (s : State) (f : Lens → Lens) :
    (s.modLens f).pfd = s.pfd := rfl
@[simp] theorem State.modLens_matchOn (s : State) (f : Lens → Lens) :
    (s.modLens f).matchOn = s.matchOn := rfl
@[simp] theorem State.modLens_tolerance (s : State) (f : Lens → Lens) :
    (s.modLens f).tolerance = s.tolerance := rfl
@[simp] theorem State.modLens_dte (s : State) (f : Lens → Lens) :
    (s.modLens f).dte = s.dte := rfl
@[simp] theorem State.modLens_views (s : State) (f : Lens → Lens) :
    (s.modLens f).views = s.views := rfl
@[simp] theorem State.modLens_ports (s : State) (f : Lens → Lens) :
    (s.modLens f).ports = s.ports := rfl
@[simp] theorem State.modLens_areas (s : State) (f : Lens → Lens) :
    (s.modLens f).areas = s.areas := rfl
@[simp] theorem State.modLens_descs (s : State) (f : Lens → Lens) :
    (s.modLens f).descs = s.descs := rfl
@[simp] theorem State.modLens_op (s : State) (f : Lens → Lens) :
    (s.modLens f).op = s.op := rfl
@[simp] theorem State.modLens_lens (s : State) (f : Lens → Lens) :
    (s.modLens f).lens = f s.lens := rfl
@[simp] theorem State.modLens_link (s : State) (f : Lens → Lens) :
    (s.modLens f).link = s.link := rfl
@[simp] theorem State.modLens_pending (s : State) (f : Lens → Lens) :
    (s.modLens f).pending = s.pending := rfl

/-! ### modFinder -/

@[simp] theorem State.modFinder_records (s : State) (f : Finder → Finder) :
    (s.modFinder f).records = s.records := rfl
@[simp] theorem State.modFinder_lessons (s : State) (f : Finder → Finder) :
    (s.modFinder f).lessons = s.lessons := rfl
@[simp] theorem State.modFinder_active (s : State) (f : Finder → Finder) :
    (s.modFinder f).active = s.active := rfl
@[simp] theorem State.modFinder_slots (s : State) (f : Finder → Finder) :
    (s.modFinder f).slots = s.slots := rfl
@[simp] theorem State.modFinder_freeBlocks (s : State) (f : Finder → Finder) :
    (s.modFinder f).freeBlocks = s.freeBlocks := rfl
@[simp] theorem State.modFinder_sin (s : State) (f : Finder → Finder) :
    (s.modFinder f).sin = s.sin := rfl
@[simp] theorem State.modFinder_pfd (s : State) (f : Finder → Finder) :
    (s.modFinder f).pfd = f s.pfd := rfl
@[simp] theorem State.modFinder_matchOn (s : State) (f : Finder → Finder) :
    (s.modFinder f).matchOn = s.matchOn := rfl
@[simp] theorem State.modFinder_tolerance (s : State) (f : Finder → Finder) :
    (s.modFinder f).tolerance = s.tolerance := rfl
@[simp] theorem State.modFinder_dte (s : State) (f : Finder → Finder) :
    (s.modFinder f).dte = s.dte := rfl
@[simp] theorem State.modFinder_views (s : State) (f : Finder → Finder) :
    (s.modFinder f).views = s.views := rfl
@[simp] theorem State.modFinder_ports (s : State) (f : Finder → Finder) :
    (s.modFinder f).ports = s.ports := rfl
@[simp] theorem State.modFinder_areas (s : State) (f : Finder → Finder) :
    (s.modFinder f).areas = s.areas := rfl
@[simp] theorem State.modFinder_descs (s : State) (f : Finder → Finder) :
    (s.modFinder f).descs = s.descs := rfl
@[simp] theorem State.modFinder_op (s : State) (f : Finder → Finder) :
    (s.modFinder f).op = s.op := rfl
@[simp] theorem State.modFinder_lens (s : State) (f : Finder → Finder) :
    (s.modFinder f).lens = s.lens := rfl
@[simp] theorem State.modFinder_link (s : State) (f : Finder → Finder) :
    (s.modFinder f).link = s.link := rfl
@[simp] theorem State.modFinder_pending (s : State) (f : Finder → Finder) :
    (s.modFinder f).pending = s.pending := rfl

/-! ### modIntake -/

@[simp] theorem State.modIntake_records (s : State) (f : Intake → Intake) :
    (s.modIntake f).records = s.records := rfl
@[simp] theorem State.modIntake_lessons (s : State) (f : Intake → Intake) :
    (s.modIntake f).lessons = s.lessons := rfl
@[simp] theorem State.modIntake_active (s : State) (f : Intake → Intake) :
    (s.modIntake f).active = s.active := rfl
@[simp] theorem State.modIntake_slots (s : State) (f : Intake → Intake) :
    (s.modIntake f).slots = s.slots := rfl
@[simp] theorem State.modIntake_freeBlocks (s : State) (f : Intake → Intake) :
    (s.modIntake f).freeBlocks = s.freeBlocks := rfl
@[simp] theorem State.modIntake_sin (s : State) (f : Intake → Intake) :
    (s.modIntake f).sin = f s.sin := rfl
@[simp] theorem State.modIntake_pfd (s : State) (f : Intake → Intake) :
    (s.modIntake f).pfd = s.pfd := rfl
@[simp] theorem State.modIntake_matchOn (s : State) (f : Intake → Intake) :
    (s.modIntake f).matchOn = s.matchOn := rfl
@[simp] theorem State.modIntake_tolerance (s : State) (f : Intake → Intake) :
    (s.modIntake f).tolerance = s.tolerance := rfl
@[simp] theorem State.modIntake_dte (s : State) (f : Intake → Intake) :
    (s.modIntake f).dte = s.dte := rfl
@[simp] theorem State.modIntake_views (s : State) (f : Intake → Intake) :
    (s.modIntake f).views = s.views := rfl
@[simp] theorem State.modIntake_ports (s : State) (f : Intake → Intake) :
    (s.modIntake f).ports = s.ports := rfl
@[simp] theorem State.modIntake_areas (s : State) (f : Intake → Intake) :
    (s.modIntake f).areas = s.areas := rfl
@[simp] theorem State.modIntake_descs (s : State) (f : Intake → Intake) :
    (s.modIntake f).descs = s.descs := rfl
@[simp] theorem State.modIntake_op (s : State) (f : Intake → Intake) :
    (s.modIntake f).op = s.op := rfl
@[simp] theorem State.modIntake_lens (s : State) (f : Intake → Intake) :
    (s.modIntake f).lens = s.lens := rfl
@[simp] theorem State.modIntake_link (s : State) (f : Intake → Intake) :
    (s.modIntake f).link = s.link := rfl
@[simp] theorem State.modIntake_pending (s : State) (f : Intake → Intake) :
    (s.modIntake f).pending = s.pending := rfl

/-! ### modDetail -/

@[simp] theorem State.modDetail_records (s : State) (f : Detail → Detail) :
    (s.modDetail f).records = s.records := rfl
@[simp] theorem State.modDetail_lessons (s : State) (f : Detail → Detail) :
    (s.modDetail f).lessons = s.lessons := rfl
@[simp] theorem State.modDetail_active (s : State) (f : Detail → Detail) :
    (s.modDetail f).active = s.active := rfl
@[simp] theorem State.modDetail_slots (s : State) (f : Detail → Detail) :
    (s.modDetail f).slots = s.slots := rfl
@[simp] theorem State.modDetail_freeBlocks (s : State) (f : Detail → Detail) :
    (s.modDetail f).freeBlocks = s.freeBlocks := rfl
@[simp] theorem State.modDetail_sin (s : State) (f : Detail → Detail) :
    (s.modDetail f).sin = s.sin := rfl
@[simp] theorem State.modDetail_pfd (s : State) (f : Detail → Detail) :
    (s.modDetail f).pfd = s.pfd := rfl
@[simp] theorem State.modDetail_matchOn (s : State) (f : Detail → Detail) :
    (s.modDetail f).matchOn = s.matchOn := rfl
@[simp] theorem State.modDetail_tolerance (s : State) (f : Detail → Detail) :
    (s.modDetail f).tolerance = s.tolerance := rfl
@[simp] theorem State.modDetail_dte (s : State) (f : Detail → Detail) :
    (s.modDetail f).dte = f s.dte := rfl
@[simp] theorem State.modDetail_views (s : State) (f : Detail → Detail) :
    (s.modDetail f).views = s.views := rfl
@[simp] theorem State.modDetail_ports (s : State) (f : Detail → Detail) :
    (s.modDetail f).ports = s.ports := rfl
@[simp] theorem State.modDetail_areas (s : State) (f : Detail → Detail) :
    (s.modDetail f).areas = s.areas := rfl
@[simp] theorem State.modDetail_descs (s : State) (f : Detail → Detail) :
    (s.modDetail f).descs = s.descs := rfl
@[simp] theorem State.modDetail_op (s : State) (f : Detail → Detail) :
    (s.modDetail f).op = s.op := rfl
@[simp] theorem State.modDetail_lens (s : State) (f : Detail → Detail) :
    (s.modDetail f).lens = s.lens := rfl
@[simp] theorem State.modDetail_link (s : State) (f : Detail → Detail) :
    (s.modDetail f).link = s.link := rfl
@[simp] theorem State.modDetail_pending (s : State) (f : Detail → Detail) :
    (s.modDetail f).pending = s.pending := rfl

/-! ### modLink -/

@[simp] theorem State.modLink_records (s : State) (f : Link → Link) :
    (s.modLink f).records = s.records := rfl
@[simp] theorem State.modLink_lessons (s : State) (f : Link → Link) :
    (s.modLink f).lessons = s.lessons := rfl
@[simp] theorem State.modLink_active (s : State) (f : Link → Link) :
    (s.modLink f).active = s.active := rfl
@[simp] theorem State.modLink_slots (s : State) (f : Link → Link) :
    (s.modLink f).slots = s.slots := rfl
@[simp] theorem State.modLink_freeBlocks (s : State) (f : Link → Link) :
    (s.modLink f).freeBlocks = s.freeBlocks := rfl
@[simp] theorem State.modLink_sin (s : State) (f : Link → Link) :
    (s.modLink f).sin = s.sin := rfl
@[simp] theorem State.modLink_pfd (s : State) (f : Link → Link) :
    (s.modLink f).pfd = s.pfd := rfl
@[simp] theorem State.modLink_matchOn (s : State) (f : Link → Link) :
    (s.modLink f).matchOn = s.matchOn := rfl
@[simp] theorem State.modLink_tolerance (s : State) (f : Link → Link) :
    (s.modLink f).tolerance = s.tolerance := rfl
@[simp] theorem State.modLink_dte (s : State) (f : Link → Link) :
    (s.modLink f).dte = s.dte := rfl
@[simp] theorem State.modLink_views (s : State) (f : Link → Link) :
    (s.modLink f).views = s.views := rfl
@[simp] theorem State.modLink_ports (s : State) (f : Link → Link) :
    (s.modLink f).ports = s.ports := rfl
@[simp] theorem State.modLink_areas (s : State) (f : Link → Link) :
    (s.modLink f).areas = s.areas := rfl
@[simp] theorem State.modLink_descs (s : State) (f : Link → Link) :
    (s.modLink f).descs = s.descs := rfl
@[simp] theorem State.modLink_op (s : State) (f : Link → Link) :
    (s.modLink f).op = s.op := rfl
@[simp] theorem State.modLink_lens (s : State) (f : Link → Link) :
    (s.modLink f).lens = s.lens := rfl
@[simp] theorem State.modLink_link (s : State) (f : Link → Link) :
    (s.modLink f).link = f s.link := rfl
@[simp] theorem State.modLink_pending (s : State) (f : Link → Link) :
    (s.modLink f).pending = s.pending := rfl

/-! ### modArea -/

@[simp] theorem State.modArea_records (s : State) (l : Fin 8) (f : Area → Area) :
    (s.modArea l f).records = s.records := rfl
@[simp] theorem State.modArea_lessons (s : State) (l : Fin 8) (f : Area → Area) :
    (s.modArea l f).lessons = s.lessons := rfl
@[simp] theorem State.modArea_active (s : State) (l : Fin 8) (f : Area → Area) :
    (s.modArea l f).active = s.active := rfl
@[simp] theorem State.modArea_slots (s : State) (l : Fin 8) (f : Area → Area) :
    (s.modArea l f).slots = s.slots := rfl
@[simp] theorem State.modArea_freeBlocks (s : State) (l : Fin 8) (f : Area → Area) :
    (s.modArea l f).freeBlocks = s.freeBlocks := rfl
@[simp] theorem State.modArea_sin (s : State) (l : Fin 8) (f : Area → Area) :
    (s.modArea l f).sin = s.sin := rfl
@[simp] theorem State.modArea_pfd (s : State) (l : Fin 8) (f : Area → Area) :
    (s.modArea l f).pfd = s.pfd := rfl
@[simp] theorem State.modArea_matchOn (s : State) (l : Fin 8) (f : Area → Area) :
    (s.modArea l f).matchOn = s.matchOn := rfl
@[simp] theorem State.modArea_tolerance (s : State) (l : Fin 8) (f : Area → Area) :
    (s.modArea l f).tolerance = s.tolerance := rfl
@[simp] theorem State.modArea_dte (s : State) (l : Fin 8) (f : Area → Area) :
    (s.modArea l f).dte = s.dte := rfl
@[simp] theorem State.modArea_views (s : State) (l : Fin 8) (f : Area → Area) :
    (s.modArea l f).views = s.views := rfl
@[simp] theorem State.modArea_ports (s : State) (l : Fin 8) (f : Area → Area) :
    (s.modArea l f).ports = s.ports := rfl
@[simp] theorem State.modArea_areas (s : State) (l : Fin 8) (f : Area → Area) :
    (s.modArea l f).areas = s.areas.set l (f s.areas[l]) := rfl
@[simp] theorem State.modArea_descs (s : State) (l : Fin 8) (f : Area → Area) :
    (s.modArea l f).descs = s.descs := rfl
@[simp] theorem State.modArea_op (s : State) (l : Fin 8) (f : Area → Area) :
    (s.modArea l f).op = s.op := rfl
@[simp] theorem State.modArea_lens (s : State) (l : Fin 8) (f : Area → Area) :
    (s.modArea l f).lens = s.lens := rfl
@[simp] theorem State.modArea_link (s : State) (l : Fin 8) (f : Area → Area) :
    (s.modArea l f).link = s.link := rfl
@[simp] theorem State.modArea_pending (s : State) (l : Fin 8) (f : Area → Area) :
    (s.modArea l f).pending = s.pending := rfl

/-! ### setDesc -/

@[simp] theorem State.setDesc_records (s : State) (l : Fin 8) (d : AreaDesc) :
    (s.setDesc l d).records = s.records := rfl
@[simp] theorem State.setDesc_lessons (s : State) (l : Fin 8) (d : AreaDesc) :
    (s.setDesc l d).lessons = s.lessons := rfl
@[simp] theorem State.setDesc_active (s : State) (l : Fin 8) (d : AreaDesc) :
    (s.setDesc l d).active = s.active := rfl
@[simp] theorem State.setDesc_slots (s : State) (l : Fin 8) (d : AreaDesc) :
    (s.setDesc l d).slots = s.slots := rfl
@[simp] theorem State.setDesc_freeBlocks (s : State) (l : Fin 8) (d : AreaDesc) :
    (s.setDesc l d).freeBlocks = s.freeBlocks := rfl
@[simp] theorem State.setDesc_sin (s : State) (l : Fin 8) (d : AreaDesc) :
    (s.setDesc l d).sin = s.sin := rfl
@[simp] theorem State.setDesc_pfd (s : State) (l : Fin 8) (d : AreaDesc) :
    (s.setDesc l d).pfd = s.pfd := rfl
@[simp] theorem State.setDesc_matchOn (s : State) (l : Fin 8) (d : AreaDesc) :
    (s.setDesc l d).matchOn = s.matchOn := rfl
@[simp] theorem State.setDesc_tolerance (s : State) (l : Fin 8) (d : AreaDesc) :
    (s.setDesc l d).tolerance = s.tolerance := rfl
@[simp] theorem State.setDesc_dte (s : State) (l : Fin 8) (d : AreaDesc) :
    (s.setDesc l d).dte = s.dte := rfl
@[simp] theorem State.setDesc_views (s : State) (l : Fin 8) (d : AreaDesc) :
    (s.setDesc l d).views = s.views := rfl
@[simp] theorem State.setDesc_ports (s : State) (l : Fin 8) (d : AreaDesc) :
    (s.setDesc l d).ports = s.ports := rfl
@[simp] theorem State.setDesc_areas (s : State) (l : Fin 8) (d : AreaDesc) :
    (s.setDesc l d).areas = s.areas := rfl
@[simp] theorem State.setDesc_descs (s : State) (l : Fin 8) (d : AreaDesc) :
    (s.setDesc l d).descs = s.descs.set l d := rfl
@[simp] theorem State.setDesc_op (s : State) (l : Fin 8) (d : AreaDesc) :
    (s.setDesc l d).op = s.op := rfl
@[simp] theorem State.setDesc_lens (s : State) (l : Fin 8) (d : AreaDesc) :
    (s.setDesc l d).lens = s.lens := rfl
@[simp] theorem State.setDesc_link (s : State) (l : Fin 8) (d : AreaDesc) :
    (s.setDesc l d).link = s.link := rfl
@[simp] theorem State.setDesc_pending (s : State) (l : Fin 8) (d : AreaDesc) :
    (s.setDesc l d).pending = s.pending := rfl

/-! ### setFlag -/

@[simp] theorem State.setFlag_records (s : State) (f : Flag) :
    (s.setFlag f).records = s.records := rfl
@[simp] theorem State.setFlag_lessons (s : State) (f : Flag) :
    (s.setFlag f).lessons = s.lessons := rfl
@[simp] theorem State.setFlag_active (s : State) (f : Flag) :
    (s.setFlag f).active = s.active := rfl
@[simp] theorem State.setFlag_slots (s : State) (f : Flag) :
    (s.setFlag f).slots = s.slots := rfl
@[simp] theorem State.setFlag_freeBlocks (s : State) (f : Flag) :
    (s.setFlag f).freeBlocks = s.freeBlocks := rfl
@[simp] theorem State.setFlag_sin (s : State) (f : Flag) :
    (s.setFlag f).sin = s.sin := rfl
@[simp] theorem State.setFlag_pfd (s : State) (f : Flag) :
    (s.setFlag f).pfd = s.pfd := rfl
@[simp] theorem State.setFlag_matchOn (s : State) (f : Flag) :
    (s.setFlag f).matchOn = s.matchOn := rfl
@[simp] theorem State.setFlag_tolerance (s : State) (f : Flag) :
    (s.setFlag f).tolerance = s.tolerance := rfl
@[simp] theorem State.setFlag_dte (s : State) (f : Flag) :
    (s.setFlag f).dte = s.dte := rfl
@[simp] theorem State.setFlag_views (s : State) (f : Flag) :
    (s.setFlag f).views = s.views := rfl
@[simp] theorem State.setFlag_ports (s : State) (f : Flag) :
    (s.setFlag f).ports = s.ports := rfl
@[simp] theorem State.setFlag_areas (s : State) (f : Flag) :
    (s.setFlag f).areas = s.areas := rfl
@[simp] theorem State.setFlag_descs (s : State) (f : Flag) :
    (s.setFlag f).descs = s.descs := rfl
@[simp] theorem State.setFlag_op (s : State) (f : Flag) :
    (s.setFlag f).op = s.op := rfl
@[simp] theorem State.setFlag_lens (s : State) (f : Flag) :
    (s.setFlag f).lens = s.lens := rfl
@[simp] theorem State.setFlag_link (s : State) (f : Flag) :
    (s.setFlag f).link = { s.link with status := s.link.status ||| f.only } := rfl
@[simp] theorem State.setFlag_pending (s : State) (f : Flag) :
    (s.setFlag f).pending = s.pending := rfl

/-! ### clearFlags -/

@[simp] theorem State.clearFlags_records (s : State) (m : FlagSet) :
    (s.clearFlags m).records = s.records := rfl
@[simp] theorem State.clearFlags_lessons (s : State) (m : FlagSet) :
    (s.clearFlags m).lessons = s.lessons := rfl
@[simp] theorem State.clearFlags_active (s : State) (m : FlagSet) :
    (s.clearFlags m).active = s.active := rfl
@[simp] theorem State.clearFlags_slots (s : State) (m : FlagSet) :
    (s.clearFlags m).slots = s.slots := rfl
@[simp] theorem State.clearFlags_freeBlocks (s : State) (m : FlagSet) :
    (s.clearFlags m).freeBlocks = s.freeBlocks := rfl
@[simp] theorem State.clearFlags_sin (s : State) (m : FlagSet) :
    (s.clearFlags m).sin = s.sin := rfl
@[simp] theorem State.clearFlags_pfd (s : State) (m : FlagSet) :
    (s.clearFlags m).pfd = s.pfd := rfl
@[simp] theorem State.clearFlags_matchOn (s : State) (m : FlagSet) :
    (s.clearFlags m).matchOn = s.matchOn := rfl
@[simp] theorem State.clearFlags_tolerance (s : State) (m : FlagSet) :
    (s.clearFlags m).tolerance = s.tolerance := rfl
@[simp] theorem State.clearFlags_dte (s : State) (m : FlagSet) :
    (s.clearFlags m).dte = s.dte := rfl
@[simp] theorem State.clearFlags_views (s : State) (m : FlagSet) :
    (s.clearFlags m).views = s.views := rfl
@[simp] theorem State.clearFlags_ports (s : State) (m : FlagSet) :
    (s.clearFlags m).ports = s.ports := rfl
@[simp] theorem State.clearFlags_areas (s : State) (m : FlagSet) :
    (s.clearFlags m).areas = s.areas := rfl
@[simp] theorem State.clearFlags_descs (s : State) (m : FlagSet) :
    (s.clearFlags m).descs = s.descs := rfl
@[simp] theorem State.clearFlags_op (s : State) (m : FlagSet) :
    (s.clearFlags m).op = s.op := rfl
@[simp] theorem State.clearFlags_lens (s : State) (m : FlagSet) :
    (s.clearFlags m).lens = s.lens := rfl
@[simp] theorem State.clearFlags_link (s : State) (m : FlagSet) :
    (s.clearFlags m).link = { s.link with status := s.link.status &&& ~~~m } := rfl
@[simp] theorem State.clearFlags_pending (s : State) (m : FlagSet) :
    (s.clearFlags m).pending = s.pending := rfl

/-! ### withAnswer -/

@[simp] theorem State.withAnswer_records (s : State) (a : Answer) :
    (s.withAnswer a).records = s.records := rfl
@[simp] theorem State.withAnswer_lessons (s : State) (a : Answer) :
    (s.withAnswer a).lessons = s.lessons := rfl
@[simp] theorem State.withAnswer_active (s : State) (a : Answer) :
    (s.withAnswer a).active = s.active := rfl
@[simp] theorem State.withAnswer_slots (s : State) (a : Answer) :
    (s.withAnswer a).slots = s.slots := rfl
@[simp] theorem State.withAnswer_freeBlocks (s : State) (a : Answer) :
    (s.withAnswer a).freeBlocks = s.freeBlocks := rfl
@[simp] theorem State.withAnswer_sin (s : State) (a : Answer) :
    (s.withAnswer a).sin = s.sin := rfl
@[simp] theorem State.withAnswer_pfd (s : State) (a : Answer) :
    (s.withAnswer a).pfd = s.pfd := rfl
@[simp] theorem State.withAnswer_matchOn (s : State) (a : Answer) :
    (s.withAnswer a).matchOn = s.matchOn := rfl
@[simp] theorem State.withAnswer_tolerance (s : State) (a : Answer) :
    (s.withAnswer a).tolerance = s.tolerance := rfl
@[simp] theorem State.withAnswer_dte (s : State) (a : Answer) :
    (s.withAnswer a).dte = s.dte := rfl
@[simp] theorem State.withAnswer_views (s : State) (a : Answer) :
    (s.withAnswer a).views = s.views := rfl
@[simp] theorem State.withAnswer_ports (s : State) (a : Answer) :
    (s.withAnswer a).ports = s.ports := rfl
@[simp] theorem State.withAnswer_areas (s : State) (a : Answer) :
    (s.withAnswer a).areas = s.areas := rfl
@[simp] theorem State.withAnswer_descs (s : State) (a : Answer) :
    (s.withAnswer a).descs = s.descs := rfl
@[simp] theorem State.withAnswer_op (s : State) (a : Answer) :
    (s.withAnswer a).op = s.op := rfl
@[simp] theorem State.withAnswer_lens (s : State) (a : Answer) :
    (s.withAnswer a).lens = s.lens := rfl
@[simp] theorem State.withAnswer_link (s : State) (a : Answer) :
    (s.withAnswer a).link = { s.link with answer := some a } := rfl
@[simp] theorem State.withAnswer_pending (s : State) (a : Answer) :
    (s.withAnswer a).pending = s.pending := rfl

/-! ### Records, lessons, slots, views and ports through updates of other fields -/

@[simp] theorem State.modPage_lesson (s : State) (i : Fin 64) (f : Record → Record) (n : Fin 8) :
    (s.modPage i f).lesson n = s.lesson n := rfl
@[simp] theorem State.modPage_slot (s : State) (i : Fin 64) (f : Record → Record) (j : Fin 24) :
    (s.modPage i f).slot j = s.slot j := rfl
@[simp] theorem State.modPage_view (s : State) (i : Fin 64) (f : Record → Record) (w : ViewId) :
    (s.modPage i f).view w = s.view w := rfl
@[simp] theorem State.modPage_port (s : State) (i : Fin 64) (f : Record → Record) (w : ViewId) :
    (s.modPage i f).port w = s.port w := rfl
@[simp] theorem State.modLesson_page (s : State) (l : Fin 8) (f : Lesson → Lesson) (j : Fin 64) :
    (s.modLesson l f).page j = s.page j := rfl
@[simp] theorem State.modLesson_slot (s : State) (l : Fin 8) (f : Lesson → Lesson) (j : Fin 24) :
    (s.modLesson l f).slot j = s.slot j := rfl
@[simp] theorem State.modLesson_view (s : State) (l : Fin 8) (f : Lesson → Lesson) (w : ViewId) :
    (s.modLesson l f).view w = s.view w := rfl
@[simp] theorem State.modLesson_port (s : State) (l : Fin 8) (f : Lesson → Lesson) (w : ViewId) :
    (s.modLesson l f).port w = s.port w := rfl
@[simp] theorem State.modSlot_page (s : State) (k : Fin 24) (f : Slot → Slot) (j : Fin 64) :
    (s.modSlot k f).page j = s.page j := rfl
@[simp] theorem State.modSlot_lesson (s : State) (k : Fin 24) (f : Slot → Slot) (n : Fin 8) :
    (s.modSlot k f).lesson n = s.lesson n := rfl
@[simp] theorem State.modSlot_view (s : State) (k : Fin 24) (f : Slot → Slot) (w : ViewId) :
    (s.modSlot k f).view w = s.view w := rfl
@[simp] theorem State.modSlot_port (s : State) (k : Fin 24) (f : Slot → Slot) (w : ViewId) :
    (s.modSlot k f).port w = s.port w := rfl
@[simp] theorem State.modView_page (s : State) (v : ViewId) (f : ViewCtx → ViewCtx) (j : Fin 64) :
    (s.modView v f).page j = s.page j := rfl
@[simp] theorem State.modView_lesson (s : State) (v : ViewId) (f : ViewCtx → ViewCtx) (n : Fin 8) :
    (s.modView v f).lesson n = s.lesson n := rfl
@[simp] theorem State.modView_slot (s : State) (v : ViewId) (f : ViewCtx → ViewCtx) (j : Fin 24) :
    (s.modView v f).slot j = s.slot j := rfl
@[simp] theorem State.modView_port (s : State) (v : ViewId) (f : ViewCtx → ViewCtx) (w : ViewId) :
    (s.modView v f).port w = s.port w := rfl
@[simp] theorem State.modPort_page (s : State) (v : ViewId) (f : PortCtx → PortCtx) (j : Fin 64) :
    (s.modPort v f).page j = s.page j := rfl
@[simp] theorem State.modPort_lesson (s : State) (v : ViewId) (f : PortCtx → PortCtx) (n : Fin 8) :
    (s.modPort v f).lesson n = s.lesson n := rfl
@[simp] theorem State.modPort_slot (s : State) (v : ViewId) (f : PortCtx → PortCtx) (j : Fin 24) :
    (s.modPort v f).slot j = s.slot j := rfl
@[simp] theorem State.modPort_view (s : State) (v : ViewId) (f : PortCtx → PortCtx) (w : ViewId) :
    (s.modPort v f).view w = s.view w := rfl
@[simp] theorem State.modLens_page (s : State) (f : Lens → Lens) (j : Fin 64) :
    (s.modLens f).page j = s.page j := rfl
@[simp] theorem State.modLens_lesson (s : State) (f : Lens → Lens) (n : Fin 8) :
    (s.modLens f).lesson n = s.lesson n := rfl
@[simp] theorem State.modLens_slot (s : State) (f : Lens → Lens) (j : Fin 24) :
    (s.modLens f).slot j = s.slot j := rfl
@[simp] theorem State.modLens_view (s : State) (f : Lens → Lens) (w : ViewId) :
    (s.modLens f).view w = s.view w := rfl
@[simp] theorem State.modLens_port (s : State) (f : Lens → Lens) (w : ViewId) :
    (s.modLens f).port w = s.port w := rfl
@[simp] theorem State.modFinder_page (s : State) (f : Finder → Finder) (j : Fin 64) :
    (s.modFinder f).page j = s.page j := rfl
@[simp] theorem State.modFinder_lesson (s : State) (f : Finder → Finder) (n : Fin 8) :
    (s.modFinder f).lesson n = s.lesson n := rfl
@[simp] theorem State.modFinder_slot (s : State) (f : Finder → Finder) (j : Fin 24) :
    (s.modFinder f).slot j = s.slot j := rfl
@[simp] theorem State.modFinder_view (s : State) (f : Finder → Finder) (w : ViewId) :
    (s.modFinder f).view w = s.view w := rfl
@[simp] theorem State.modFinder_port (s : State) (f : Finder → Finder) (w : ViewId) :
    (s.modFinder f).port w = s.port w := rfl
@[simp] theorem State.modIntake_page (s : State) (f : Intake → Intake) (j : Fin 64) :
    (s.modIntake f).page j = s.page j := rfl
@[simp] theorem State.modIntake_lesson (s : State) (f : Intake → Intake) (n : Fin 8) :
    (s.modIntake f).lesson n = s.lesson n := rfl
@[simp] theorem State.modIntake_slot (s : State) (f : Intake → Intake) (j : Fin 24) :
    (s.modIntake f).slot j = s.slot j := rfl
@[simp] theorem State.modIntake_view (s : State) (f : Intake → Intake) (w : ViewId) :
    (s.modIntake f).view w = s.view w := rfl
@[simp] theorem State.modIntake_port (s : State) (f : Intake → Intake) (w : ViewId) :
    (s.modIntake f).port w = s.port w := rfl
@[simp] theorem State.modDetail_page (s : State) (f : Detail → Detail) (j : Fin 64) :
    (s.modDetail f).page j = s.page j := rfl
@[simp] theorem State.modDetail_lesson (s : State) (f : Detail → Detail) (n : Fin 8) :
    (s.modDetail f).lesson n = s.lesson n := rfl
@[simp] theorem State.modDetail_slot (s : State) (f : Detail → Detail) (j : Fin 24) :
    (s.modDetail f).slot j = s.slot j := rfl
@[simp] theorem State.modDetail_view (s : State) (f : Detail → Detail) (w : ViewId) :
    (s.modDetail f).view w = s.view w := rfl
@[simp] theorem State.modDetail_port (s : State) (f : Detail → Detail) (w : ViewId) :
    (s.modDetail f).port w = s.port w := rfl
@[simp] theorem State.modLink_page (s : State) (f : Link → Link) (j : Fin 64) :
    (s.modLink f).page j = s.page j := rfl
@[simp] theorem State.modLink_lesson (s : State) (f : Link → Link) (n : Fin 8) :
    (s.modLink f).lesson n = s.lesson n := rfl
@[simp] theorem State.modLink_slot (s : State) (f : Link → Link) (j : Fin 24) :
    (s.modLink f).slot j = s.slot j := rfl
@[simp] theorem State.modLink_view (s : State) (f : Link → Link) (w : ViewId) :
    (s.modLink f).view w = s.view w := rfl
@[simp] theorem State.modLink_port (s : State) (f : Link → Link) (w : ViewId) :
    (s.modLink f).port w = s.port w := rfl
@[simp] theorem State.modArea_page (s : State) (l : Fin 8) (f : Area → Area) (j : Fin 64) :
    (s.modArea l f).page j = s.page j := rfl
@[simp] theorem State.modArea_lesson (s : State) (l : Fin 8) (f : Area → Area) (n : Fin 8) :
    (s.modArea l f).lesson n = s.lesson n := rfl
@[simp] theorem State.modArea_slot (s : State) (l : Fin 8) (f : Area → Area) (j : Fin 24) :
    (s.modArea l f).slot j = s.slot j := rfl
@[simp] theorem State.modArea_view (s : State) (l : Fin 8) (f : Area → Area) (w : ViewId) :
    (s.modArea l f).view w = s.view w := rfl
@[simp] theorem State.modArea_port (s : State) (l : Fin 8) (f : Area → Area) (w : ViewId) :
    (s.modArea l f).port w = s.port w := rfl
@[simp] theorem State.setDesc_page (s : State) (l : Fin 8) (d : AreaDesc) (j : Fin 64) :
    (s.setDesc l d).page j = s.page j := rfl
@[simp] theorem State.setDesc_lesson (s : State) (l : Fin 8) (d : AreaDesc) (n : Fin 8) :
    (s.setDesc l d).lesson n = s.lesson n := rfl
@[simp] theorem State.setDesc_slot (s : State) (l : Fin 8) (d : AreaDesc) (j : Fin 24) :
    (s.setDesc l d).slot j = s.slot j := rfl
@[simp] theorem State.setDesc_view (s : State) (l : Fin 8) (d : AreaDesc) (w : ViewId) :
    (s.setDesc l d).view w = s.view w := rfl
@[simp] theorem State.setDesc_port (s : State) (l : Fin 8) (d : AreaDesc) (w : ViewId) :
    (s.setDesc l d).port w = s.port w := rfl
@[simp] theorem State.setFlag_page (s : State) (f : Flag) (j : Fin 64) :
    (s.setFlag f).page j = s.page j := rfl
@[simp] theorem State.setFlag_lesson (s : State) (f : Flag) (n : Fin 8) :
    (s.setFlag f).lesson n = s.lesson n := rfl
@[simp] theorem State.setFlag_slot (s : State) (f : Flag) (j : Fin 24) :
    (s.setFlag f).slot j = s.slot j := rfl
@[simp] theorem State.setFlag_view (s : State) (f : Flag) (w : ViewId) :
    (s.setFlag f).view w = s.view w := rfl
@[simp] theorem State.setFlag_port (s : State) (f : Flag) (w : ViewId) :
    (s.setFlag f).port w = s.port w := rfl
@[simp] theorem State.clearFlags_page (s : State) (m : FlagSet) (j : Fin 64) :
    (s.clearFlags m).page j = s.page j := rfl
@[simp] theorem State.clearFlags_lesson (s : State) (m : FlagSet) (n : Fin 8) :
    (s.clearFlags m).lesson n = s.lesson n := rfl
@[simp] theorem State.clearFlags_slot (s : State) (m : FlagSet) (j : Fin 24) :
    (s.clearFlags m).slot j = s.slot j := rfl
@[simp] theorem State.clearFlags_view (s : State) (m : FlagSet) (w : ViewId) :
    (s.clearFlags m).view w = s.view w := rfl
@[simp] theorem State.clearFlags_port (s : State) (m : FlagSet) (w : ViewId) :
    (s.clearFlags m).port w = s.port w := rfl
@[simp] theorem State.withAnswer_page (s : State) (a : Answer) (j : Fin 64) :
    (s.withAnswer a).page j = s.page j := rfl
@[simp] theorem State.withAnswer_lesson (s : State) (a : Answer) (n : Fin 8) :
    (s.withAnswer a).lesson n = s.lesson n := rfl
@[simp] theorem State.withAnswer_slot (s : State) (a : Answer) (j : Fin 24) :
    (s.withAnswer a).slot j = s.slot j := rfl
@[simp] theorem State.withAnswer_view (s : State) (a : Answer) (w : ViewId) :
    (s.withAnswer a).view w = s.view w := rfl
@[simp] theorem State.withAnswer_port (s : State) (a : Answer) (w : ViewId) :
    (s.withAnswer a).port w = s.port w := rfl

/-! ### What was written is read back -/

theorem State.modPage_page (s : State) (i j : Fin 64) (f : Record → Record) :
    (s.modPage i f).page j = if i = j then f (s.page i) else s.page j := by
  simp only [State.page, State.modPage, Fin.getElem_fin, Vector.getElem_set, Fin.val_inj]

theorem State.modLesson_lesson (s : State) (l m : Fin 8) (f : Lesson → Lesson) :
    (s.modLesson l f).lesson m = if l = m then f (s.lesson l) else s.lesson m := by
  simp only [State.lesson, State.modLesson, Fin.getElem_fin, Vector.getElem_set, Fin.val_inj]

theorem State.modSlot_slot (s : State) (k j : Fin 24) (f : Slot → Slot) :
    (s.modSlot k f).slot j = if k = j then f (s.slot k) else s.slot j := by
  simp only [State.slot, State.modSlot, Fin.getElem_fin, Vector.getElem_set, Fin.val_inj]

@[simp] theorem Trio.get_set {α : Type} (t : Trio α) (v w : ViewId) (a : α) :
    (t.set v a).get w = if v = w then a else t.get w := by cases v <;> cases w <;> rfl

theorem State.modView_view (s : State) (v w : ViewId) (f : ViewCtx → ViewCtx) :
    (s.modView v f).view w = if v = w then f (s.view v) else s.view w := by
  simp [State.view, State.modView]

theorem State.modPort_port (s : State) (v w : ViewId) (f : PortCtx → PortCtx) :
    (s.modPort v f).port w = if v = w then f (s.port v) else s.port w := by
  simp [State.port, State.modPort]

@[simp] theorem State.modPage_page_same (s : State) (i : Fin 64) (f : Record → Record) :
    (s.modPage i f).page i = f (s.page i) := by simp [State.modPage_page]

@[simp] theorem State.modLesson_lesson_same (s : State) (l : Fin 8) (f : Lesson → Lesson) :
    (s.modLesson l f).lesson l = f (s.lesson l) := by simp [State.modLesson_lesson]

@[simp] theorem State.modSlot_slot_same (s : State) (k : Fin 24) (f : Slot → Slot) :
    (s.modSlot k f).slot k = f (s.slot k) := by simp [State.modSlot_slot]

@[simp] theorem State.modView_view_same (s : State) (v : ViewId) (f : ViewCtx → ViewCtx) :
    (s.modView v f).view v = f (s.view v) := by simp [State.modView_view]

@[simp] theorem State.modPort_port_same (s : State) (v : ViewId) (f : PortCtx → PortCtx) :
    (s.modPort v f).port v = f (s.port v) := by simp [State.modPort_port]

theorem State.modPage_page_ne (s : State) {i j : Fin 64} (f : Record → Record) (h : i ≠ j) :
    (s.modPage i f).page j = s.page j := by simp [State.modPage_page, h]

theorem State.modLesson_lesson_ne (s : State) {l m : Fin 8} (f : Lesson → Lesson) (h : l ≠ m) :
    (s.modLesson l f).lesson m = s.lesson m := by simp [State.modLesson_lesson, h]

theorem State.modSlot_slot_ne (s : State) {k j : Fin 24} (f : Slot → Slot) (h : k ≠ j) :
    (s.modSlot k f).slot j = s.slot j := by simp [State.modSlot_slot, h]

theorem State.modView_view_ne (s : State) {v w : ViewId} (f : ViewCtx → ViewCtx) (h : v ≠ w) :
    (s.modView v f).view w = s.view w := by simp [State.modView_view, h]

theorem State.modPort_port_ne (s : State) {v w : ViewId} (f : PortCtx → PortCtx) (h : v ≠ w) :
    (s.modPort v f).port w = s.port w := by simp [State.modPort_port, h]

end Sys2Proof.Machine
end

