-- ==== Sys2Proof/Laws/Checks.lean ====
section
/-! SUPPORT. What lists of checks, refusals and conclusions are. -/

namespace Sys2Proof.Machine

/-- A list of checks passes exactly when none of them fails. -/
theorem firstFailure_eq_none_iff (l : List Check) : firstFailure l = none ↔ ∀ c ∈ l, c.1 = false := by
  induction l with
  | nil => simp [firstFailure]
  | cons c rest ih => obtain ⟨b, code⟩ := c; cases b <;> simp [firstFailure, ih]

/-- A failing head decides. -/
@[simp] theorem firstFailure_true (c : ResultCode) (l : List Check) :
    firstFailure ((true, c) :: l) = some c := rfl

/-- A passing head is skipped. -/
@[simp] theorem firstFailure_false (c : ResultCode) (l : List Check) :
    firstFailure ((false, c) :: l) = firstFailure l := rfl

@[simp] theorem firstFailure_nil : firstFailure [] = none := rfl

/-- The checks of two lists made one after the other. -/
theorem firstFailure_append (l m : List Check) :
    firstFailure (l ++ m) = (firstFailure l).or (firstFailure m) := by
  induction l with
  | nil => simp
  | cons c rest ih => obtain ⟨b, code⟩ := c; cases b <;> simp [ih]

/-- A command whose checks pass is carried out. -/
theorem guarded_pass {s : State} {checks : List Check} {act : Result} (h : firstFailure checks = none) :
    guarded s checks act = act := by simp [guarded, h]

/-- A command one of whose checks fails is refused with the first failure's code and changes nothing. -/
theorem guarded_refuse {s : State} {checks : List Check} {act : Result} {c : ResultCode}
    (h : firstFailure checks = some c) : guarded s checks act = (s, ⟨c, .empty⟩) := by
  simp [guarded, h, refuse]

/-- What a guarded command is: refused with nothing changed, or carried out. -/
theorem guarded_cases (s : State) (checks : List Check) (act : Result) :
    (∃ c, guarded s checks act = (s, ⟨c, .empty⟩)) ∨ guarded s checks act = act := by
  cases h : firstFailure checks with
  | none => exact .inr (guarded_pass h)
  | some c => exact .inl ⟨c, guarded_refuse h⟩

/-- A telegram command always answers a next state. -/
theorem conclude_eq (r : Result) : conclude r = .next (r.1.withAnswer r.2) := rfl

end Sys2Proof.Machine
end

