-- ==== Sys2Proof/Laws/Bus.lean ====
section
/-! SUPPORT. What the lens bus and the bits of the control link can do, said once. -/

namespace Sys2Proof.Machine

/-! ### Bits and bytes (R177) -/

/-- The byte of a byte's own bits. -/
theorem byteOfBits_bits (c : Byte) :
    byteOfBits (c.getLsbD 7) (c.getLsbD 6) (c.getLsbD 5) (c.getLsbD 4) (c.getLsbD 3) (c.getLsbD 2)
      (c.getLsbD 1) (c.getLsbD 0) = c := by
  revert c
  decide

/-- Fewer than eight bits are no whole byte. -/
theorem wholeBytes_part : ∀ part : List Bool, part.length < 8 → wholeBytes part = []
  | [], _ => rfl
  | [_], _ => rfl
  | [_, _], _ => rfl
  | [_, _, _], _ => rfl
  | [_, _, _, _], _ => rfl
  | [_, _, _, _, _], _ => rfl
  | [_, _, _, _, _, _], _ => rfl
  | [_, _, _, _, _, _, _], _ => rfl
  | _ :: _ :: _ :: _ :: _ :: _ :: _ :: _ :: _, h => by simp only [List.length_cons] at h; omega

/-- The whole bytes of bytes' bits with the bits of a part byte after them are those bytes. -/
theorem wholeBytes_bitsOf (b : List Byte) (part : List Bool) (h : part.length < 8) :
    wholeBytes (bitsOf b ++ part) = b := by
  induction b with
  | nil => exact wholeBytes_part part h
  | cons c rest ih =>
    show byteOfBits _ _ _ _ _ _ _ _ :: wholeBytes (bitsOf rest ++ part) = c :: rest
    rw [byteOfBits_bits, ih]

/-! ### The arbiter and the ends of transactions (R168, R172, R173) -/

/-- The arbiter waits while the bus is not idle. -/
theorem Lens.arbitrate_busy (x : Lens) (h : x.bus ≠ .idle) : x.arbitrate = x := by
  simp [Lens.arbitrate, h]

/-- Nothing on the bus, and no transaction ends. -/
theorem State.transactionEnd_none (s : State) (n : Nat) (data : Vector Byte 8) (h : s.lens.carried = none) :
    s.transactionEnd n data = s := by
  simp [State.transactionEnd, h]

/-- Nothing on the bus, and no clock is held. -/
theorem State.clockHeld_none (s : State) (h : s.lens.carried = none) : s.clockHeld = s := by
  simp [State.clockHeld, h]

/-- A transaction end is the end of what is carried. -/
theorem State.transactionEnd_some (s : State) (n : Nat) (data : Vector Byte 8) (c : Carried)
    (h : s.lens.carried = some c) :
    s.transactionEnd n data =
      s.lensEnd (decide (c.tx.acksNeeded ≤ n)) data (untilNack n (c.tx.events data)) := by
  simp [State.transactionEnd, h]

/-- What a held clock leaves of a transaction: its start, as much of the rest as it may be, and the stop. -/
theorem untilHeld_events (t : Transaction) (data : Vector Byte 8) (n : Nat) :
    untilHeld n (t.events data) =
      .start :: ([BusEvent.address t.addr .write, .sent t.reg]
        ++ (match t.act with
          | .write bytes => bytes.map .sent
          | .read count => [.restart, .address t.addr .read] ++ receivedBytes data count)).take n ++ [.stop] := by
  have h : (t.events data).dropLast =
      [.start, .address t.addr .write, .sent t.reg]
        ++ (match t.act with
          | .write bytes => bytes.map .sent
          | .read count => [.restart, .address t.addr .read] ++ receivedBytes data count) :=
    List.dropLast_concat
  rw [untilHeld, h]
  rfl

/-- A held clock ends what is carried with NACK, after so many events and with such data as it may be. -/
theorem State.clockHeld_some (s : State) (c : Carried) (h : s.lens.carried = some c) :
    ∃ (n : Nat) (data : Vector Byte 8),
      s.clockHeld = (s.modLens fun x => { x with heldClocks := x.heldClocks + 1 }).lensEnd false data
        (untilHeld n (c.tx.events data)) := by
  refine ⟨(Config.heldClock s.lens.heldClocks).1, (Config.heldClock s.lens.heldClocks).2, ?_⟩
  simp [State.clockHeld, h]

/-- A change that reaches at most the lens bus, the Page Finder and the attention flags. -/
structure BusChange (s t : State) : Prop where
  eq : t = { s with lens := t.lens, pfd := t.pfd, link := { s.link with status := t.link.status } }

theorem BusChange.trans {s t u : State} (h : BusChange s t) (k : BusChange t u) : BusChange s u := by
  constructor
  rw [k.eq, h.eq]

theorem State.setFlag_bus (s : State) (f : Flag) : BusChange s (s.setFlag f) := ⟨rfl⟩

theorem State.setLens_bus (s : State) (x : Lens) : BusChange s { s with lens := x } := ⟨rfl⟩

theorem State.modLens_bus (s : State) (f : Lens → Lens) : BusChange s (s.modLens f) := ⟨rfl⟩

theorem State.modFinder_bus (s : State) (f : Finder → Finder) : BusChange s (s.modFinder f) := ⟨rfl⟩

theorem State.endRun_bus (s : State) (o : FocusOutcome) : BusChange s (s.endRun o) := ⟨rfl⟩

theorem State.pollEnd_bus (s : State) (b : Byte) : BusChange s (s.pollEnd b) := by
  unfold State.pollEnd
  split
  · exact s.endRun_bus _
  · split
    · dsimp only
      split
      · exact (s.modFinder_bus _).trans (State.endRun_bus _ _)
      · exact s.modFinder_bus _
    · exact s.endRun_bus _

theorem State.takeAuto_bus (s : State) (r : AutoReq) (ack : Bool) (b : Byte) :
    BusChange s (s.takeAuto r ack b) := by
  unfold State.takeAuto
  repeat' split
  all_goals first | exact ⟨rfl⟩ | exact s.endRun_bus _ | exact s.pollEnd_bus _

/-- What the end of a transaction can change (R173). -/
theorem State.lensEnd_bus (s : State) (ack : Bool) (data : Vector Byte 8) (lines : List BusEvent) :
    BusChange s (s.lensEnd ack data lines) := by
  unfold State.lensEnd
  dsimp only
  split
  · exact ⟨rfl⟩
  · refine BusChange.trans ?_ (State.modLens_bus _ _)
    split
    · exact (s.setLens_bus _).trans (State.takeAuto_bus _ _ _ _)
    · exact ((s.setLens_bus _).trans (State.takeAuto_bus _ _ _ _)).trans (State.setFlag_bus _ _)
  · exact ⟨rfl⟩
  · exact ⟨rfl⟩

/-- What LENS_TRANSACTION_END can change. -/
theorem State.transactionEnd_bus (s : State) (n : Nat) (data : Vector Byte 8) :
    BusChange s (s.transactionEnd n data) := by
  unfold State.transactionEnd
  split
  · exact s.lensEnd_bus _ _ _
  · exact ⟨rfl⟩

/-- What CLOCK_HOLD_TIMEOUT can change. -/
theorem State.clockHeld_bus (s : State) : BusChange s s.clockHeld := by
  unfold State.clockHeld
  split
  · exact (s.modLens_bus _).trans (State.lensEnd_bus _ _ _ _)
  · exact ⟨rfl⟩

/-! ### Bands of the page (R103) -/

/-- A row lies in its own band. -/
theorem bandTop_le_row (row : Nat) : bandTop (bandOfRow row) ≤ row := by
  simp only [bandTop, bandOfRow]
  omega

/-- A row lies before the next band. -/
theorem row_lt_bandTop (row : Nat) : row < bandTop (bandOfRow row + 1) := by
  simp only [bandTop, bandOfRow]
  omega

/-! ### Slots at a reset (R49) -/

/-- A slot made FREE by a reset keeps its kind. -/
@[simp] theorem Slot.afterReset_kind (x : Slot) : x.afterReset.kind = x.kind := rfl

/-- A slot made FREE by a reset keeps its light level. -/
@[simp] theorem Slot.afterReset_light (x : Slot) : x.afterReset.light = x.light := rfl

/-- A slot made FREE by a reset is FREE. -/
@[simp] theorem Slot.afterReset_st (x : Slot) : x.afterReset.st = .free := rfl

end Sys2Proof.Machine
end

