-- ==== Sys2Proof/Laws/Memory.lean ====
section
/-! SUPPORT. The bytes of a lesson flash area: reads after writes, and the canonical form kept. -/

namespace Sys2Proof.Machine

/-- A lower bound of the offsets may be lowered. -/
theorem risesAbove_mono {m : List Host.Cell} {n k : Nat} (h : risesAbove n m = true) (hk : k ≤ n) :
    risesAbove k m = true := by
  cases m with
  | nil => rfl
  | cons c rest =>
    simp only [risesAbove, Bool.and_eq_true, decide_eq_true_eq] at h ⊢
    exact ⟨le_trans hk h.1, h.2⟩

/-- Writing a byte at or above the bound keeps the form above it. -/
theorem writeCell_risesAbove (m : List Host.Cell) (n x : Nat) (v : Byte) (h : risesAbove n m = true)
    (hx : n ≤ x) : risesAbove n (writeCell m x v) = true := by
  induction m generalizing n with
  | nil => simp [writeCell, risesAbove, hx]
  | cons c rest ih =>
    obtain ⟨a, b⟩ := c
    simp only [risesAbove, Bool.and_eq_true, decide_eq_true_eq] at h
    rw [writeCell]
    split
    · simp only [risesAbove, Bool.and_eq_true, decide_eq_true_eq]; exact ⟨hx, by omega, h.2⟩
    · split
      · simp only [risesAbove, Bool.and_eq_true, decide_eq_true_eq]; subst_vars; exact ⟨hx, h.2⟩
      · simp only [risesAbove, Bool.and_eq_true, decide_eq_true_eq]; exact ⟨h.1, ih (a + 1) h.2 (by omega)⟩

/-- A write of one byte keeps the canonical form. -/
theorem writeCell_wf (m : List Host.Cell) (x : Nat) (v : Byte) (h : Memory.wf m = true) :
    Memory.wf (writeCell m x v) = true := writeCell_risesAbove m 0 x v h (Nat.zero_le x)

/-- A write of bytes keeps the canonical form. -/
theorem writeBytes_wf (l : List Byte) (m : List Host.Cell) (x : Nat) (h : Memory.wf m = true) :
    Memory.wf (writeBytes m x l) = true := by
  induction l generalizing m x with
  | nil => exact h
  | cons b rest ih => exact ih _ _ (writeCell_wf m x b h)

/-- A byte reads back as written, and a write leaves every other byte. -/
theorem readCell_writeCell (m : List Host.Cell) (x y : Nat) (v : Byte) :
    readCell (writeCell m x v) y = if y = x then some v else readCell m y := by
  induction m with
  | nil => simp [writeCell, readCell]
  | cons c rest ih =>
    obtain ⟨a, b⟩ := c
    rw [writeCell]
    split
    · rfl
    · split <;> simp only [readCell, ih] <;> split_ifs <;> simp_all

/-- A write of bytes leaves every byte outside them. -/
theorem readCell_writeBytes_outside (l : List Byte) (m : List Host.Cell) (x y : Nat)
    (h : y < x ∨ x + l.length ≤ y) : readCell (writeBytes m x l) y = readCell m y := by
  induction l generalizing m x with
  | nil => rfl
  | cons b rest ih =>
    simp only [List.length_cons] at h
    rw [writeBytes, ih _ _ (by omega), readCell_writeCell, if_neg (by omega)]

/-- Bytes written are read back. -/
theorem readBytes_writeBytes (l : List Byte) (m : List Host.Cell) (x : Nat) :
    readBytes (writeBytes m x l) x l.length = some l := by
  induction l generalizing m x with
  | nil => rfl
  | cons b rest ih =>
    simp only [List.length_cons, writeBytes, readBytes]
    rw [readCell_writeBytes_outside _ _ _ _ (by omega), readCell_writeCell, if_pos rfl, ih]

/-- Below the picture region a read is one of the area's bytes. -/
theorem Area.read_eq (a : Area) (x n : Nat) (h : x + n ≤ pictureOffset) : a.read x n = readBytes a.cells x n := by
  induction n generalizing x with
  | zero => rfl
  | succ n ih =>
    rw [Area.read, readBytes, ih (x + 1) (by omega), Area.contentAt, if_pos (by omega)]
    cases readCell a.cells x <;> cases readBytes a.cells (x + 1) n <;> rfl

/-- A read that reaches the picture region gives no bytes. -/
theorem Area.read_picture (a : Area) (x n : Nat) (hn : 0 < n) (h : pictureOffset < x + n) : a.read x n = none := by
  induction n generalizing x with
  | zero => omega
  | succ n ih =>
    rw [Area.read]
    rcases Nat.lt_or_ge x pictureOffset with hx | hx
    · rw [ih (x + 1) (by omega) (by omega)]
      split <;> simp_all
    · rw [Area.contentAt, if_neg (by omega)]

/-- Below the picture region a write is one of the area's bytes. -/
theorem Area.put_eq (a : Area) (x : Nat) (l : List Byte) (h : x + l.length ≤ pictureOffset) :
    a.put x l = { a with cells := writeBytes a.cells x l } := by
  rw [Area.put, List.take_of_length_le (by omega)]

/-- Bytes written below the picture region are read back. -/
theorem Area.read_put (a : Area) (x : Nat) (l : List Byte) (h : x + l.length ≤ pictureOffset) :
    (a.put x l).read x l.length = some l := by
  rw [Area.read_eq _ _ _ h, a.put_eq x l h, readBytes_writeBytes]

@[simp] theorem Area.put_frames (a : Area) (x : Nat) (l : List Byte) : (a.put x l).frames = a.frames := rfl

@[simp] theorem Area.put_answers (a : Area) (x : Nat) (l : List Byte) : (a.put x l).answers = a.answers := rfl

/-- A write into an area keeps its canonical form. -/
theorem Area.put_wf (a : Area) (x : Nat) (l : List Byte) (h : Memory.wf a.cells = true) :
    Memory.wf (a.put x l).cells = true := writeBytes_wf _ _ _ h

/-- A byte written puts no other offset among the bytes. -/
theorem mem_writeCell {m : List Host.Cell} {x : Nat} {v : Byte} {c : Host.Cell} (h : c ∈ writeCell m x v) :
    c ∈ m ∨ c.1 = x := by
  induction m with
  | nil => exact .inr (by simp_all [writeCell])
  | cons d rest ih =>
    rw [writeCell] at h
    split at h
    · rcases List.mem_cons.mp h with rfl | h
      · exact .inr rfl
      · exact .inl h
    · split at h
      · rcases List.mem_cons.mp h with rfl | h
        · exact .inr rfl
        · exact .inl (List.mem_cons_of_mem _ h)
      · rcases List.mem_cons.mp h with rfl | h
        · exact .inl List.mem_cons_self
        · exact (ih h).imp (List.mem_cons_of_mem _) id

/-- Bytes written put no offset beyond them among the bytes. -/
theorem mem_writeBytes {l : List Byte} {m : List Host.Cell} {x : Nat} {c : Host.Cell} (h : c ∈ writeBytes m x l) :
    c ∈ m ∨ c.1 < x + l.length := by
  induction l generalizing m x with
  | nil => exact .inl h
  | cons b rest ih =>
    simp only [List.length_cons]
    rcases ih h with h | h
    · exact (mem_writeCell h).imp id (by omega)
    · exact .inr (by omega)

/-- The bytes of an area stay below its picture region. -/
theorem Area.put_below (a : Area) (x : Nat) (l : List Byte) (h : ∀ c ∈ a.cells, c.1 < pictureOffset) :
    ∀ c ∈ (a.put x l).cells, c.1 < pictureOffset := by
  intro c hc
  rcases Nat.lt_or_ge x pictureOffset with hx | hx
  · rcases mem_writeBytes hc with hc | hc
    · exact h c hc
    · rw [List.length_take] at hc; omega
  · have he : l.take (pictureOffset - x) = [] := by rw [Nat.sub_eq_zero_of_le hx]; rfl
    rw [Area.put, he] at hc
    exact h c hc

/-- The clear, the erase and the writes of an area keep its canonical form (R154, R160). -/
theorem Area.clear_wf (a : Area) (h : Memory.wf a.cells = true) : Memory.wf a.clear.cells = true :=
  a.put_wf _ _ h

theorem Area.erase_wf (a : Area) : Memory.wf a.erase.cells = true := rfl

theorem Area.writeHeader_wf (a : Area) (l : Fin 8) (v : HeaderVals) (h : Memory.wf a.cells = true) :
    Memory.wf (a.writeHeader l v).cells = true := a.put_wf _ _ h

theorem Area.writePage_wf (a : Area) (k : Nat) (x : Setup) (b : Bool) (n : Nat)
    (h : Memory.wf a.cells = true) : Memory.wf (a.writePage k x b n).cells = true := a.put_wf _ _ h

theorem Area.writeMarker_wf (a : Area) (h : Memory.wf a.cells = true) :
    Memory.wf a.writeMarker.cells = true := a.put_wf _ _ h

theorem Area.writePicture_cells (a : Area) (i n : Nat) (p : Picture) :
    (a.writePicture i n p).cells = a.cells := rfl

/-- The lesson flash after reset has the canonical form. -/
theorem State.reset_areas_wf (l : Fin 8) : Memory.wf State.reset.areas[l].cells = true := by
  simp [State.reset, Area.unwritten, Memory.wf, risesAbove]

end Sys2Proof.Machine
end

