-- ==== Sys2Proof/Laws/Format.lean ====
section
/-! SUPPORT. Lengths of the header and of the page image, and that what carries its own check passes it. -/

namespace Sys2Proof.Machine

/-- The check has two bytes. -/
theorem crcBytes_length (l : List Byte) : (crcBytes l).length = 2 := rfl

/-- Bytes followed by their check pass it. -/
theorem crcHolds_append {l : List Byte} {n : Nat} (h : l.length = n) (rest : List Byte) :
    crcHolds (l ++ crcBytes l ++ rest) n = true := by
  subst h
  have hc : (crcBytes l).take 2 = crcBytes l := List.take_of_length_le (by simp [crcBytes_length])
  simp [crcHolds, slice, List.append_assoc, List.take_append, crcBytes_length, hc]

/-- One step of the check over two words: the second word's top bit is the bit taken, the rest of it waits. -/
theorem crcShift_xor (c y : BitVec 16) :
    crcShift (c ^^^ y) = ((c <<< 1) ^^^ if c.msb = y.msb then 0#16 else 0x1021#16) ^^^ (y <<< 1) := by
  unfold crcShift
  rw [BitVec.msb_xor, BitVec.shiftLeft_xor_distrib]
  cases c.msb <;> cases y.msb <;> simp <;> ac_rfl

/-- A byte of the check is its eight bits, most significant first. -/
theorem crcByte_bits (c : BitVec 16) (b : Byte) :
    crcByte c b =
      (bitsOf [b]).foldl (fun (c : BitVec 16) bit => (c <<< 1) ^^^ if c.msb = bit then 0#16 else 0x1021#16) c := by
  have gone : b.setWidth 16 <<< 8 <<< 1 <<< 1 <<< 1 <<< 1 <<< 1 <<< 1 <<< 1 <<< 1 = 0#16 := by
    revert b
    decide +kernel
  have tops : [b.setWidth 16 <<< 8, b.setWidth 16 <<< 8 <<< 1, b.setWidth 16 <<< 8 <<< 1 <<< 1,
        b.setWidth 16 <<< 8 <<< 1 <<< 1 <<< 1, b.setWidth 16 <<< 8 <<< 1 <<< 1 <<< 1 <<< 1,
        b.setWidth 16 <<< 8 <<< 1 <<< 1 <<< 1 <<< 1 <<< 1,
        b.setWidth 16 <<< 8 <<< 1 <<< 1 <<< 1 <<< 1 <<< 1 <<< 1,
        b.setWidth 16 <<< 8 <<< 1 <<< 1 <<< 1 <<< 1 <<< 1 <<< 1 <<< 1].map (fun y => y.msb) = bitsOf [b] := by
    revert b
    decide +kernel
  simp only [List.map_cons, List.map_nil, bitsOf, List.flatMap_cons, List.flatMap_nil, List.append_nil,
    List.cons.injEq, and_true] at tops
  simp only [crcByte, Nat.repeat, crcShift_xor, tops, gone, BitVec.xor_zero]
  rfl

/-- The label field has 25 bytes. -/
theorem labelBytes_length {label : Option (List Byte)} (h : ∀ l, label = some l → l.length ≤ 24) :
    (labelBytes label).length = 25 := by
  cases label with
  | none => rfl
  | some l =>
    have := h l rfl
    simp only [labelBytes, List.length_cons, List.length_append, List.length_replicate]
    omega

/-- A directory entry has two bytes. -/
theorem dirBytes_length (e : Option DirEntry) : (dirBytes e).length = 2 := by cases e <;> rfl

/-- A directory has two bytes for each entry. -/
theorem flatMap_dirBytes_length (d : List (Option DirEntry)) : (d.flatMap dirBytes).length = 2 * d.length := by
  induction d with
  | nil => rfl
  | cons e rest ih => simp only [List.flatMap_cons, List.length_append, dirBytes_length, ih, List.length_cons]; omega

/-- The header fields under the check are 96 bytes. -/
theorem headerCore_length (l : Fin 8) {h : HeaderVals} (hl : ∀ t, h.label = some t → t.length ≤ 24)
    (hd : h.dir.length = 32) : (headerCore l h).length = 96 := by
  simp only [headerCore, List.length_append, List.length_cons, List.length_nil, labelBytes_length hl,
    flatMap_dirBytes_length, hd]

/-- A header is 124 bytes after its marker. -/
theorem headerBytes_length (l : Fin 8) {h : HeaderVals} (hl : ∀ t, h.label = some t → t.length ≤ 24)
    (hd : h.dir.length = 32) : (headerBytes l h).length = 124 := by
  simp [headerBytes, headerCore_length l hl hd, crcBytes_length]

/-- Nibbles pack two to a byte. -/
theorem packNibbles_length (l : List Nat) : (packNibbles l).length = l.length / 2 := by
  induction l using packNibbles.induct with
  | case1 a b rest ih => simp only [packNibbles, List.length_cons, ih]; omega
  | case2 l h =>
    match l, h with
    | [], _ => rfl
    | [_], _ => simp [packNibbles]
    | a :: b :: rest, h => exact absurd rfl (h a b rest)

theorem cornerBytes_length (c : Option Corners) : (cornerBytes c).length = 16 := by cases c <;> rfl

theorem presetBytes_length (p : Option Preset) : (presetBytes p).length = 6 := by cases p <;> rfl

theorem signatureBytes_length (s : Option Signature) : (signatureBytes s).length = 8 := by
  cases s <;> simp [signatureBytes, packNibbles_length]

/-- A mark position has seven bytes. -/
theorem markBytes_length (m : Option Mark) : (markBytes m).length = 7 := by cases m <;> rfl

/-- Mark positions have seven bytes each. -/
theorem flatMap_markBytes_length (l : List (Option Mark)) : (l.flatMap markBytes).length = 7 * l.length := by
  induction l with
  | nil => rfl
  | cons e rest ih => simp only [List.flatMap_cons, List.length_append, markBytes_length, ih, List.length_cons]; omega

/-- A page image under its check is 128 bytes. -/
theorem pageCore_length {x : Setup} (hl : ∀ t, x.label = some t → t.length ≤ 24) (still : Bool) (first : Nat) :
    (pageCore x still first).length = 128 := by
  simp only [pageCore, be16, List.length_append, List.length_cons, List.length_nil, List.length_replicate,
    List.length_map, Vector.length_toList, packNibbles_length, labelBytes_length hl, cornerBytes_length,
    signatureBytes_length, presetBytes_length, flatMap_markBytes_length]

/-- A page image is 130 bytes. -/
theorem pageBytes_length {x : Setup} (hl : ∀ t, x.label = some t → t.length ≤ 24) (still : Bool) (first : Nat) :
    (pageBytes x still first).length = 130 := by
  simp [pageBytes, pageCore_length hl, crcBytes_length]

/-- A page image passes its check. -/
theorem pageBytes_crcHolds {x : Setup} (hl : ∀ t, x.label = some t → t.length ≤ 24) (still : Bool) (first : Nat) :
    crcHolds (pageBytes x still first) 128 = true := by
  simpa [pageBytes] using crcHolds_append (pageCore_length hl still first) []

/-- A header passes its check. -/
theorem headerBytes_crcHolds (l : Fin 8) {h : HeaderVals} (hl : ∀ t, h.label = some t → t.length ≤ 24)
    (hd : h.dir.length = 32) : crcHolds (headerBytes l h) 96 = true :=
  crcHolds_append (headerCore_length l hl hd) _

/-- Reading fewer bytes reads the first of them. -/
theorem readBytes_take {m : List Host.Cell} {x n : Nat} {l : List Byte} (h : readBytes m x n = some l) {k : Nat}
    (hk : k ≤ n) : readBytes m x k = some (l.take k) := by
  induction n generalizing x l k with
  | zero => obtain rfl : k = 0 := by omega
            simp [readBytes]
  | succ n ih =>
    cases k with
    | zero => simp [readBytes]
    | succ k =>
      simp only [readBytes] at h ⊢
      cases hb : readCell m x <;> cases hr : readBytes m (x + 1) n <;> simp only [hb, hr] at h
      case some.some b r =>
        obtain rfl : b :: r = l := Option.some.inj h
        simp [ih hr (Nat.le_of_succ_le_succ hk)]
      all_goals cases h

/-- A write elsewhere leaves the bytes read. -/
theorem readBytes_writeBytes_outside (l : List Byte) (m : List Host.Cell) (x y n : Nat)
    (h : y + n ≤ x ∨ x + l.length ≤ y) : readBytes (writeBytes m x l) y n = readBytes m y n := by
  induction n generalizing y with
  | zero => rfl
  | succ n ih =>
    simp only [readBytes]
    rw [readCell_writeBytes_outside l m x y (by omega), ih (y + 1) (by omega)]

/-- An area that answers reads back a page image written to it below the picture region, if that is sound. -/
theorem Area.readPage_writePage {a : Area} (ha : a.answers = true) {k : Nat}
    (hk : pageOffset k + 130 ≤ pictureOffset) {x : Setup}
    (hl : ∀ t, x.label = some t → t.length ≤ 24) (still : Bool) (first : Nat) :
    (a.writePage k x still first).readPage k =
      if pageSound (pageBytes x still first) then some (pageBytes x still first) else none := by
  have h := a.read_put (pageOffset k) (pageBytes x still first) (by rwa [pageBytes_length hl])
  rw [pageBytes_length hl] at h
  simp [Area.readPage, Area.writePage, ha, h]

/-- The 32 page images lie below the picture region (R154, R155). -/
theorem pageOffset_below {k : Nat} (hk : k < 32) : pageOffset k + 130 ≤ pictureOffset := by
  unfold pageOffset pictureOffset
  omega

/-- The bytes a header write leaves where a header read looks. -/
theorem Area.writeHeader_readBytes (a : Area) (l : Fin 8) {h : HeaderVals}
    (hl : ∀ t, h.label = some t → t.length ≤ 24) (hd : h.dir.length = 32) :
    readBytes (a.writeHeader l h).cells 4 98 = some ((headerBytes l h).take 98) := by
  have hr := readBytes_writeBytes (headerBytes l h) a.cells 4
  rw [headerBytes_length l hl hd] at hr
  rw [Area.writeHeader, a.put_eq 4 _ (by rw [headerBytes_length l hl hd]; decide)]
  exact readBytes_take hr (by omega)

/-- What a header read takes of a header: the fields and their check. -/
theorem headerBytes_take (l : Fin 8) {h : HeaderVals} (hl : ∀ t, h.label = some t → t.length ≤ 24)
    (hd : h.dir.length = 32) : (headerBytes l h).take 98 = headerCore l h ++ crcBytes (headerCore l h) := by
  rw [headerBytes, List.take_append_of_le_length] <;>
    simp [headerCore_length l hl hd, crcBytes_length, List.take_of_length_le]

/-- An area holds the valid pattern after a marker write, and does not after a clear (R154). -/
theorem Area.writeMarker_markerValid (a : Area) : a.writeMarker.markerValid = a.answers := by
  have h : (a.put 0 validPattern).read 0 4 = some validPattern := a.read_put 0 validPattern (by decide)
  rw [Area.markerValid, Area.writeMarker, h, beq_self_eq_true, Bool.and_true, Area.put_answers]

theorem Area.clear_markerValid (a : Area) : a.clear.markerValid = false := by
  have h : (a.put 0 clearedMarker).read 0 4 = some clearedMarker := a.read_put 0 clearedMarker (by decide)
  have hne : (some clearedMarker == some validPattern) = false := by decide
  rw [Area.markerValid, Area.clear, h, hne, Bool.and_false]

/-- The header an area reads once it is written and its marker is, if that is sound. -/
theorem Area.describe_writeHeader {a : Area} (ha : a.answers = true) (l : Fin 8) {h : HeaderVals}
    (hl : ∀ t, h.label = some t → t.length ≤ 24) (hd : h.dir.length = 32)
    (hs : headerSound l (headerCore l h ++ crcBytes (headerCore l h)) = true) :
    (a.writeHeader l h).writeMarker.describe l =
      ⟨true, true, some (headerVals (headerCore l h ++ crcBytes (headerCore l h)))⟩ := by
  have hr : (a.writeHeader l h).writeMarker.read 4 98 =
      some (headerCore l h ++ crcBytes (headerCore l h)) := by
    rw [Area.read_eq _ _ _ (by decide), Area.writeMarker, Area.put_eq _ _ _ (by decide),
      readBytes_writeBytes_outside _ _ _ _ _ (.inr (by decide)), a.writeHeader_readBytes l hl hd,
      headerBytes_take l hl hd]
  have hm : (a.writeHeader l h).writeMarker.markerValid = true := by
    rw [Area.writeMarker_markerValid]; exact ha
  have hh : (a.writeHeader l h).writeMarker.readHeader l =
      some (headerVals (headerCore l h ++ crcBytes (headerCore l h))) := by
    have hw : (a.writeHeader l h).writeMarker.answers = true := ha
    simp [Area.readHeader, hw, hr, hs]
  simp [Area.describe, hm, hh]

end Sys2Proof.Machine
end

