-- ==== Sys2Proof/Laws/Tables.lean ====
section
/-! SUPPORT. What the shared operations over records, lessons, slots and views can change, said once. -/

namespace Sys2Proof.Machine

/-- The change from s to t reaches at most the records, the lessons and the active lesson, the slots with the
free-block count, the views, and the attention flags. -/
structure TableChange (s t : State) : Prop where
  sin : t.sin = s.sin
  pfd : t.pfd = s.pfd
  matchOn : t.matchOn = s.matchOn
  tolerance : t.tolerance = s.tolerance
  dte : t.dte = s.dte
  ports : t.ports = s.ports
  areas : t.areas = s.areas
  descs : t.descs = s.descs
  op : t.op = s.op
  lens : t.lens = s.lens
  pending : t.pending = s.pending
  link : t.link = { s.link with status := t.link.status }

namespace TableChange

theorem refl (s : State) : TableChange s s := ⟨rfl, rfl, rfl, rfl, rfl, rfl, rfl, rfl, rfl, rfl, rfl, rfl⟩

theorem trans {s t u : State} (h : TableChange s t) (k : TableChange t u) : TableChange s u where
  sin := k.sin.trans h.sin
  pfd := k.pfd.trans h.pfd
  matchOn := k.matchOn.trans h.matchOn
  tolerance := k.tolerance.trans h.tolerance
  dte := k.dte.trans h.dte
  ports := k.ports.trans h.ports
  areas := k.areas.trans h.areas
  descs := k.descs.trans h.descs
  op := k.op.trans h.op
  lens := k.lens.trans h.lens
  pending := k.pending.trans h.pending
  link := by rw [k.link, h.link]

/-- A fold of such changes is such a change. -/
theorem foldl {α : Type} {f : State → α → State} (hf : ∀ s a, TableChange s (f s a)) (l : List α) (s : State) :
    TableChange s (l.foldl f s) := by
  induction l generalizing s with
  | nil => exact refl s
  | cons a rest ih => exact (hf s a).trans (ih _)

end TableChange

/-! ### The basic updates -/

theorem State.modPage_change (s : State) (i : Fin 64) (f : Record → Record) :
    TableChange s (s.modPage i f) := ⟨rfl, rfl, rfl, rfl, rfl, rfl, rfl, rfl, rfl, rfl, rfl, rfl⟩

theorem State.modLesson_change (s : State) (l : Fin 8) (f : Lesson → Lesson) :
    TableChange s (s.modLesson l f) := ⟨rfl, rfl, rfl, rfl, rfl, rfl, rfl, rfl, rfl, rfl, rfl, rfl⟩

theorem State.modSlot_change (s : State) (k : Fin 24) (f : Slot → Slot) :
    TableChange s (s.modSlot k f) := ⟨rfl, rfl, rfl, rfl, rfl, rfl, rfl, rfl, rfl, rfl, rfl, rfl⟩

theorem State.modView_change (s : State) (v : ViewId) (f : ViewCtx → ViewCtx) :
    TableChange s (s.modView v f) := ⟨rfl, rfl, rfl, rfl, rfl, rfl, rfl, rfl, rfl, rfl, rfl, rfl⟩

theorem State.setFlag_change (s : State) (f : Flag) : TableChange s (s.setFlag f) :=
  ⟨rfl, rfl, rfl, rfl, rfl, rfl, rfl, rfl, rfl, rfl, rfl, rfl⟩

/-! ### Dirty flags and references (R9, R24) -/

theorem State.touch_change (s : State) (i : Fin 64) : TableChange s (s.touch i) := by
  unfold State.touch
  split
  · exact .refl s
  · dsimp only
    split
    · exact (s.modPage_change i _).trans (State.modLesson_change _ _ _)
    · exact s.modPage_change i _

theorem State.editSetup_change (s : State) (i : Fin 64) (f : Setup → Setup) :
    TableChange s (s.editSetup i f) := (s.modPage_change i _).trans (State.touch_change _ i)

theorem State.addSel_change (s : State) (o : Option (Fin 64)) : TableChange s (s.addSel o) := by
  cases o with
  | none => exact .refl s
  | some i => exact ⟨rfl, rfl, rfl, rfl, rfl, rfl, rfl, rfl, rfl, rfl, rfl, rfl⟩

theorem State.dropSel_change (s : State) (o : Option (Fin 64)) : TableChange s (s.dropSel o) := by
  cases o with
  | none => exact .refl s
  | some i => exact ⟨rfl, rfl, rfl, rfl, rfl, rfl, rfl, rfl, rfl, rfl, rfl, rfl⟩

theorem State.addCyc_change (s : State) (o : Option (Fin 64)) : TableChange s (s.addCyc o) := by
  cases o with
  | none => exact .refl s
  | some i => exact ⟨rfl, rfl, rfl, rfl, rfl, rfl, rfl, rfl, rfl, rfl, rfl, rfl⟩

theorem State.dropCyc_change (s : State) (o : Option (Fin 64)) : TableChange s (s.dropCyc o) := by
  cases o with
  | none => exact .refl s
  | some i => exact ⟨rfl, rfl, rfl, rfl, rfl, rfl, rfl, rfl, rfl, rfl, rfl, rfl⟩

theorem State.moveSel_change (s : State) (a b : Option (Fin 64)) : TableChange s (s.moveSel a b) := by
  unfold State.moveSel
  split
  · exact .refl s
  · exact (s.dropSel_change a).trans (State.addSel_change _ b)

theorem State.moveCyc_change (s : State) (a b : Option (Fin 64)) : TableChange s (s.moveCyc a b) := by
  unfold State.moveCyc
  split
  · exact .refl s
  · exact (s.dropCyc_change a).trans (State.addCyc_change _ b)

/-- A selection ref move changes records alone. -/
theorem State.moveSel_views (s : State) (a b : Option (Fin 64)) : (s.moveSel a b).views = s.views := by
  unfold State.moveSel
  split
  · rfl
  · cases a <;> cases b <;> rfl

theorem State.stage_change (s : State) (v : ViewId) (sel : Selection) : TableChange s (s.stage v sel) :=
  (s.moveSel_change _ _).trans (State.modView_change _ v _)

theorem State.stageIfFollowing_change (s : State) (v : ViewId) (sel : Selection) :
    TableChange s (s.stageIfFollowing v sel) := by
  unfold State.stageIfFollowing
  split
  · exact s.stage_change v sel
  · exact .refl s

theorem State.stageFollowing_change (s : State) (sel : Selection) : TableChange s (s.stageFollowing sel) :=
  ((s.stageIfFollowing_change .proj sel).trans (State.stageIfFollowing_change _ .strm sel)).trans
    (State.stageIfFollowing_change _ .panel sel)

/-- A staged write: the view's staged selection is the one written, the rest of the views stands (R118). -/
theorem State.stage_view (s : State) (v w : ViewId) (sel : Selection) :
    (s.stage v sel).view w =
      if v = w then { s.view w with staged := { (s.view w).staged with sel := sel } } else s.view w := by
  unfold State.stage
  rw [State.modView_view]
  have h : ∀ u, (s.moveSel (s.view v).staged.sel.page? sel.page?).view u = s.view u := by
    intro u; simp only [State.view, State.moveSel_views]
  split
  · subst_vars; rw [h]
  · exact h w

/-! ### Slots (R49, R52, R53, R57, R60) -/

theorem State.freeSlot_change (s : State) (k : Fin 24) : TableChange s (s.freeSlot k) :=
  ⟨rfl, rfl, rfl, rfl, rfl, rfl, rfl, rfl, rfl, rfl, rfl, rfl⟩

theorem State.releaseSlot_change (s : State) (k : Fin 24) : TableChange s (s.releaseSlot k) := by
  unfold State.releaseSlot
  split
  · exact s.freeSlot_change k
  · exact s.modSlot_change k _

theorem State.releaseStill_change (s : State) (i : Fin 64) : TableChange s (s.releaseStill i) := by
  unfold State.releaseStill
  split
  · exact (s.modPage_change i _).trans (State.releaseSlot_change _ _)
  · exact .refl s

theorem State.abortFill_change (s : State) (i : Fin 64) : TableChange s (s.abortFill i) := by
  unfold State.abortFill
  split
  · exact ((s.modPage_change i _).trans (State.freeSlot_change _ _)).trans (State.setFlag_change _ _)
  · exact .refl s

theorem State.abortSlot_change (s : State) (k : Fin 24) : TableChange s (s.abortSlot k) := by
  unfold State.abortSlot
  split
  · exact s.abortFill_change _
  · exact .refl s

theorem State.abortFills_change (s : State) (src : FillSource) : TableChange s (s.abortFills src) :=
  TableChange.foldl (fun t k => State.abortSlot_change t k) _ s

theorem State.startFill_change (s : State) (k : Fin 24) (i : Fin 64) (src : FillSource)
    (ph : Option FillPhase) (f : Slot → Slot) : TableChange s (s.startFill k i src ph f) :=
  ⟨rfl, rfl, rfl, rfl, rfl, rfl, rfl, rfl, rfl, rfl, rfl, rfl⟩

theorem State.completeFill_change (s : State) (k : Fin 24) (p : Picture) (l : Fin 16) :
    TableChange s (s.completeFill k p l) := by
  unfold State.completeFill
  split
  · exact ((((s.releaseStill_change _).trans (State.modSlot_change _ _ _)).trans
      (State.modPage_change _ _ _)).trans (State.touch_change _ _)).trans (State.setFlag_change _ _)
  · exact .refl s

/-! ### Records, holds and retiring (R1, R25 to R27, R51) -/

theorem State.freeRecord_change (s : State) (i : Fin 64) : TableChange s (s.freeRecord i) :=
  (s.releaseStill_change i).trans (State.modPage_change _ i _)

theorem State.allocate_change (s : State) (i : Fin 64) (st : RecState) (d : Bool) :
    TableChange s (s.allocate i st d) := s.modPage_change i _

theorem State.unholdSlot_change (s : State) (k : Fin 24) : TableChange s (s.unholdSlot k) := by
  unfold State.unholdSlot
  dsimp only
  split
  · exact (s.modSlot_change k _).trans (State.freeSlot_change _ k)
  · exact s.modSlot_change k _

theorem State.unholdRecord_change (s : State) (i : Fin 64) : TableChange s (s.unholdRecord i) := by
  unfold State.unholdRecord
  dsimp only
  split
  · exact ((s.modPage_change i _).trans (State.freeRecord_change _ i)).trans (State.setFlag_change _ _)
  · exact s.modPage_change i _

theorem State.takeHolds_change (s : State) (src : Source) : TableChange s (s.takeHolds src) := by
  unfold State.takeHolds
  cases src.record <;> cases src.slot
  · exact .refl s
  · exact s.modSlot_change _ _
  · exact s.modPage_change _ _
  · exact (s.modPage_change _ _).trans (State.modSlot_change _ _ _)

theorem State.releaseHolds_change (s : State) (src : Source) : TableChange s (s.releaseHolds src) := by
  unfold State.releaseHolds
  cases src.record <;> cases src.slot
  · exact .refl s
  · exact s.unholdSlot_change _
  · exact s.unholdRecord_change _
  · exact (s.unholdSlot_change _).trans (State.unholdRecord_change _ _)

theorem State.insertEntry_change (s : State) (l : Fin 8) (i : Fin 64) (p : Nat) :
    TableChange s (s.insertEntry l i p) := (s.modLesson_change l _).trans (State.modPage_change _ i _)

theorem State.removeEntry_change (s : State) (l : Fin 8) (i : Fin 64) (p : Nat) :
    TableChange s (s.removeEntry l i p) := (s.modLesson_change l _).trans (State.modPage_change _ i _)

theorem State.leaveLesson_change (s : State) (i : Fin 64) : TableChange s (s.leaveLesson i) := by
  unfold State.leaveLesson
  split
  · split
    · exact s.removeEntry_change _ _ _
    · exact s.modPage_change i _
  · exact .refl s

theorem State.makeAbsent_change (s : State) (l : Fin 8) : TableChange s (s.makeAbsent l) :=
  ⟨rfl, rfl, rfl, rfl, rfl, rfl, rfl, rfl, rfl, rfl, rfl, rfl⟩

theorem State.advanceGen_change (s : State) (i : Fin 64) : TableChange s (s.advanceGen i) := by
  unfold State.advanceGen
  dsimp only
  split
  · exact (s.modPage_change i _).trans (State.modSlot_change _ _ _)
  · exact s.modPage_change i _

theorem State.retire_change (s : State) (i : Fin 64) : TableChange s (s.retire i) := by
  unfold State.retire
  have h := ((s.leaveLesson_change i).trans (State.abortFill_change _ i)).trans (State.advanceGen_change _ i)
  dsimp only
  split
  · exact h.trans (State.freeRecord_change _ i)
  · exact h.trans (State.modPage_change _ i _)

/-! ### Groups (R22) -/

/-- A group command changes what its act changes. -/
theorem State.runGroup_change (s : State) (members : List (Fin 64)) (checks : State → Fin 64 → List Check)
    {act : State → Fin 64 → State} (h : ∀ t i, TableChange t (act t i)) :
    TableChange s (s.runGroup members checks act).1 := by
  unfold State.runGroup
  have key : ∀ (l : List (Fin 64)) (t : Tally), TableChange t.s (l.foldl (Tally.treat checks act) t).s := by
    intro l
    induction l with
    | nil => exact fun t => .refl _
    | cons i rest ih =>
      intro t
      refine TableChange.trans ?_ (ih _)
      unfold Tally.treat
      split
      · exact .refl _
      · exact h _ _
  exact key members ⟨s, 0, 0, none⟩

/-- A command on a record, a group or all pages changes what its act changes. -/
theorem State.runMembers_change (s : State) (target : Members) (zero : Bool) (payload : List Check)
    (checks : State → Fin 64 → List Check) {act : State → Fin 64 → State}
    (h : ∀ t i, TableChange t (act t i)) : TableChange s (s.runMembers target zero payload checks act).1 := by
  unfold State.runMembers
  cases target with
  | page p =>
    dsimp only
    rcases guarded_cases s _ (done (act s p.record)) with ⟨c, hc⟩ | hc
    · rw [hc]; exact .refl s
    · rw [hc]; exact h s _
  | group g =>
    dsimp only
    split
    · exact .refl s
    · exact s.runGroup_change _ _ h
  | allPages =>
    dsimp only
    split
    · exact .refl s
    · exact s.runGroup_change _ _ h

/-! ### Fills and steps (R58, R59, R66, R44) -/

theorem State.captureFills_change (s : State) (src : FillSource) : TableChange s (s.captureFills src) :=
  TableChange.foldl (fun t k => t.modSlot_change k _) _ s

theorem State.requeueFills_change (s : State) : TableChange s s.requeueFills :=
  TableChange.foldl (fun t k => t.modSlot_change k _) _ s

theorem State.completePageFills_change (s : State) (n : Nat) (l : Fin 16) :
    TableChange s (s.completePageFills n l) := TableChange.foldl (fun t k => t.completeFill_change k _ _) _ s

theorem State.completeProjFills_change (s : State) (p : Picture) : TableChange s (s.completeProjFills p) :=
  TableChange.foldl (fun t k => t.completeFill_change k _ _) _ s

theorem State.goTo_change (s : State) (l : Fin 8) (p : Nat) : TableChange s (s.goTo l p) :=
  (s.modLesson_change l _).trans (State.stageFollowing_change _ _)

theorem State.edgeStep_change (s : State) (k : StepKind) : TableChange s (s.edgeStep k) := by
  unfold State.edgeStep
  split
  · exact s.goTo_change _ _
  · exact .refl s

theorem State.evict_change (s : State) (l : Fin 8) : TableChange s (s.evict l) :=
  (TableChange.foldl (fun t i => t.retire_change i) _ s).trans (State.makeAbsent_change _ l)

theorem State.matchSettled_change (s : State) (sig : Signature) : TableChange s (s.matchSettled sig) := by
  unfold State.matchSettled
  split
  · split
    · split
      · exact (s.goTo_change _ _).trans (State.setFlag_change _ _)
      · exact (s.stageFollowing_change _).trans (State.setFlag_change _ _)
    · exact .refl s
  · exact .refl s

theorem State.applyView_change (s : State) (v : ViewId) : TableChange s (s.applyView v) := by
  unfold State.applyView
  exact (s.moveSel_change _ _).trans (State.modView_change _ v _)

end Sys2Proof.Machine
end

