-- ==== Sys2Proof/WellFormed.lean ====
section
/-! DEFINITION. Which commands can come at all: a telegram's payload is at most 60 bytes (R176), and what an
intake frame measures lies within the measures of R71 and R75. -/

namespace Sys2Proof

/-- The most bytes of a payload (R176). -/
def maxPayload : Nat := 60

/-- Whether a list carried by a payload can fit it. -/
def fits {α : Type} (l : List α) : Bool := decide (l.length ≤ maxPayload)

/-- Whether an optional list fits. -/
def fitsOption {α : Type} : Option (List α) → Bool
  | some l => fits l
  | none => true

/-- Whether the text of an edit fits. -/
def fitsEdit {α : Type} : Option (Edit (List α)) → Bool
  | some (.put l) => fits l
  | _ => true

/-- Whether a sensor point lies on the sensor (00_scope.md "Sensor coordinates"). -/
def Point.wf (p : Point) : Bool := decide (p.x ≤ 4095) && decide (p.y ≤ 3071)

/-- Whether four corners lie on the sensor (R71). -/
def Corners.wf (c : Corners) : Bool := c.tl.wf && c.tr.wf && c.br.wf && c.bl.wf

/-- Whether an ink measure is a fraction from 0 to 1 (R75). -/
def Ink.wf (k : Ink) : Bool := decide (0 < k.total) && decide (k.dark ≤ k.total)

/-- Whether the outline of a frame, where one is found, lies on the sensor (R71). -/
def outlineWf : Option Corners → Bool
  | some c => c.wf
  | none => true

/-- Whether an intake frame's measures lie within their ranges (R71, R75). -/
def IntakeFrame.wf (f : IntakeFrame) : Bool := outlineWf f.outline && f.ink.toList.all Ink.wf

/-- Whether the probe of MATCH.TRY is a payload that is not empty (R101). -/
def probeWf : Option (List Nat) → Bool
  | some l => fits l && !l.isEmpty
  | none => true

/-- Whether a command can come. -/
def Instr.wf : Instr → Bool
  | .powerOnReset => true
  | .telegramReceived _ => true
  | .fetch _ => true
  | .dispatch => true
  | .takeEdge => true
  | .nextEdge => true
  | .prevEdge => true
  | .adminNegation => true
  | .adminAssertion => true
  | .pageNew _ _ => true
  | .pageSave _ _ => true
  | .pageCopy _ _ _ => true
  | .pageSet _ _ f => fitsEdit f.label
  | .pageZone _ _ _ => true
  | .pageMarks _ _ f => fits f.marks
  | .pageMarkclear _ _ _ => true
  | .pageSign _ _ f => fits f.nibbles
  | .pageLock _ _ _ => true
  | .pageGroup _ _ _ => true
  | .pageRetire _ _ => true
  | .pageRead _ => true
  | .lessonActivate _ => true
  | .lessonOpen _ _ f => fitsOption f.label
  | .lessonSet _ _ f => fitsEdit f.label
  | .lessonPlace _ _ _ => true
  | .lessonMove _ _ _ _ => true
  | .lessonRemove _ _ _ => true
  | .lessonStep _ => true
  | .lessonRead _ => true
  | .lessonEvict _ _ _ => true
  | .lessonCommit _ _ => true
  | .lessonLoad _ _ => true
  | .lessonAbandon _ _ => true
  | .lessonErase _ _ => true
  | .stillFreeze _ _ _ => true
  | .stillDrop _ _ => true
  | .stillRead => true
  | .findSetup _ _ => true
  | .findRead => true
  | .findClear => true
  | .matchSetup _ _ => true
  | .matchTry _ p => probeWf p
  | .detailTable _ f => fits f.entries
  | .detailLight _ f => fits f.offsets
  | .detailReadBandSet _ => true
  | .detailReadTables => true
  | .viewSelect _ _ => true
  | .viewFallback _ _ _ => true
  | .viewZoom _ _ => true
  | .viewPan _ _ _ => true
  | .viewRoute _ _ _ => true
  | .viewMode _ _ => true
  | .viewTake _ => true
  | .viewRead _ => true
  | .portStart _ _ _ => true
  | .portStop _ _ => true
  | .portReset _ _ => true
  | .portRead _ => true
  | .cycleWrite _ f => fits f.entries
  | .cycleLength _ _ => true
  | .cycleClear _ => true
  | .lensSetup _ _ => true
  | .bridgeWrite _ f => fits f.data
  | .bridgeRead _ _ => true
  | .bridgeResult => true
  | .devCeiling _ => true
  | .devMask _ => true
  | .devStatus _ => true
  | .devAck _ => true
  | .devIdent => true
  | .devReset _ => true
  | .intakeFrameStart => true
  | .intakeFrameEnd f => f.wf
  | .intakeTimeout => true
  | .lensTransactionEnd _ _ => true
  | .clockHoldTimeout => true
  | .portFramePeriod _ _ => true
  | .portFrameEnd _ => true
  | .commitPhaseEnd => true
  | .loadPhaseEnd => true
  | .clearEnd => true
  | .flashStepFailure _ => true
  | .flashStepTimeout => true

end Sys2Proof
end

