-- ==== Sys2Proof/Tests/Slice0.lean ====
section
/-! SUPPORT. The model's own tests: the well-formedness smoke, small steps with the values the spec's examples
give, and for each statement a state and operands that meet its hypotheses. -/

set_option Elab.async false

namespace Sys2Proof.Tests

open Machine

/-! ### Well-formedness: each check refuses an ill-formed command -/

/-- A list longer than a payload. -/
def long : List Nat := List.replicate 61 0

/-- An intake frame with an outline and ink measures. -/
def intakeFrame (outline : Option Corners) (ink : Ink) : IntakeFrame where
  full := true
  pixels := 1
  outline := outline
  motion := 3
  focus := 150
  light := 9
  glare := 0
  ink := .replicate 16 ink

/-- Corners that are the whole sensor. -/
def wholeSensor : Corners := ⟨⟨0, 0⟩, ⟨4095, 0⟩, ⟨4095, 3071⟩, ⟨0, 3071⟩⟩

theorem test_wf_outline_off_sensor_x :
    (Instr.intakeFrameEnd (intakeFrame (some { wholeSensor with br := ⟨4096, 3071⟩ }) ⟨1, 2⟩)).wf = false := by
  decide

theorem test_wf_outline_off_sensor_y :
    (Instr.intakeFrameEnd (intakeFrame (some { wholeSensor with bl := ⟨0, 3072⟩ }) ⟨1, 2⟩)).wf = false := by
  decide

theorem test_wf_ink_of_nothing :
    (Instr.intakeFrameEnd (intakeFrame none ⟨0, 0⟩)).wf = false := by decide

theorem test_wf_ink_above_one :
    (Instr.intakeFrameEnd (intakeFrame none ⟨3, 2⟩)).wf = false := by decide

theorem test_wf_intake_frame :
    (Instr.intakeFrameEnd (intakeFrame (some wholeSensor) ⟨2, 2⟩)).wf = true
      ∧ (Instr.intakeFrameEnd (intakeFrame none ⟨0, 1⟩)).wf = true := by decide

theorem test_wf_long_labels :
    (Instr.pageSet .owner ⟨1, 1⟩ ⟨some (.put (long.map byteOf)), none, none, none, none⟩).wf = false
      ∧ (Instr.lessonOpen .owner 1 ⟨some (long.map byteOf), none⟩).wf = false
      ∧ (Instr.lessonSet .owner 1 ⟨some (.put (long.map byteOf)), none⟩).wf = false := by decide

theorem test_wf_long_lists :
    (Instr.pageMarks .owner ⟨1, 1⟩ ⟨0, 1, long.map fun _ => ⟨.other, 0, 0, 0, 0⟩⟩).wf = false
      ∧ (Instr.pageSign .owner ⟨1, 1⟩ ⟨.val .given, long, 0, .other⟩).wf = false
      ∧ (Instr.detailTable .owner ⟨0, 1, long.map fun _ => ⟨0, 0⟩⟩).wf = false
      ∧ (Instr.detailLight .owner ⟨0, 1, long.map Int.ofNat⟩).wf = false
      ∧ (Instr.cycleWrite 1 ⟨0, 1, long.map fun _ => ⟨.other, none, 1⟩⟩).wf = false
      ∧ (Instr.bridgeWrite .owner ⟨.other, 0, long.map byteOf⟩).wf = false := by decide

theorem test_wf_probe :
    (Instr.matchTry none (some long)).wf = false ∧ (Instr.matchTry none (some [])).wf = false
      ∧ (Instr.matchTry none (some [1])).wf = true ∧ (Instr.matchTry none none).wf = true := by decide

theorem test_wf_longest_payloads :
    (Instr.pageSet .owner ⟨1, 1⟩ ⟨some (.put (List.replicate 60 0)), none, none, none, none⟩).wf = true
      ∧ (Instr.bridgeWrite .owner ⟨.other, 0, List.replicate 60 0⟩).wf = true := by decide

/-! ### Values the spec gives -/

/-- The check of the characters 1 to 9, the known value of this CRC (R154). -/
theorem test_crc_check_value :
    crc16 [0x31, 0x32, 0x33, 0x34, 0x35, 0x36, 0x37, 0x38, 0x39] = 0x29B1 := by
  decide +kernel

/-- The table of R105. -/
theorem test_detail_entries :
    [256, 311, 312, 512, 1024, 1991, 2048].map detailEntry = [0, 0, 1, 4, 13, 30, 31] := by decide

/-- The table of R107. -/
theorem test_strengths :
    [strength 80 .text (-16), strength 80 .photo (-16), strength 80 .fineLine (-16), strength 20 .photo (-16),
      strength 200 .fineLine 0, strength 200 .plain 0] = [64, 14, 104, 0, 255, 0] := by decide

/-- Frames F11 to F13 of the ramp of "a ramp coming to rest near the edge of the page". -/
theorem test_ramp_example :
    rampZoom 896 1001 64 = 960 ∧ rampZoom 960 1001 64 = 1001 ∧ appliedZoom 1001 1001 false 3 = 1000
      ∧ appliedZoom 1001 1001 false 0 = 1004 ∧ halfSize 960 = 546 ∧ appliedCoord 3900 960 = 3549
      ∧ appliedCoord 300 960 = 546 ∧ appliedCoord 3900 1004 = 3573 := by decide

/-- The table of R91's differences. -/
theorem test_mismatches :
    mismatches (.replicate 16 5) 0xFFFF (.replicate 16 6) = 0
      ∧ mismatches (.replicate 16 8) 0xFFFF (.replicate 16 10) = 16
      ∧ mismatches (.replicate 16 0) 0x0001 (.replicate 16 15) = 1 := by decide

/-- The order changes of "building and stepping a lesson", steps 7 and 8. -/
theorem test_cursor_example :
    cursorMove (some 1) 2 0 = some 2 ∧ cursorRemove (some 2) 2 2 = some 1 := by decide

/-! ### A state in the middle of a lecture -/

/-- Record 5: in lesson 3, with a still. -/
def record5 : Record :=
  { Record.blank 3 with
    st := .opened
    lesson := some 2
    still := some 7
    setup := { Setup.blank with
      lock := .owner
      groups := 1
      matchEnable := true
      signature := some (.replicate 16 5)
      preset := some ⟨768, 1024, 3000⟩ } }

/-- Record 6: in lesson 3, a blank page. -/
def record6 : Record := { Record.blank 1 with st := .opened, lesson := some 2 }

/-- Record 7: loose, with a fill pending. -/
def record7 : Record := { Record.blank 2 with st := .opened, fill := some 3, dirty := true }

/-- Record 8: RETIRING, with a frame showing its still. -/
def record8 : Record := { Record.blank 9 with st := .retiring, still := some 4, holds := 1 }

/-- Record 10: in lesson 5, which is COMMITTING. -/
def record10 : Record := { Record.blank 1 with st := .opened, lesson := some 4, holds := 1 }

/-- The Page Table. -/
def table : Vector Record 64 :=
  State.reset.records.set 5 record5 |>.set 6 record6 |>.set 7 record7 |>.set 8 record8 |>.set 10 record10

/-- The Lesson Table: lesson 3 OPEN, lesson 5 COMMITTING, lesson 6 stored. -/
def lessons : Vector Lesson 8 :=
  State.reset.lessons.set 2 { Lesson.absent true false with st := .opened, order := [5, 6], cursor := some 1 }
    |>.set 4 { Lesson.absent false false with st := .committing, order := [10], progress := some 0 }
    |>.set 5 (.absent true false)

/-- Slots 3 to 8: FILLING from PAGE for record 7, READY with a hold, FILLING from PROJ, RELEASED with a hold,
READY. -/
def slots : Vector Slot 24 :=
  State.reset.slots.set 3
      { Slot.reset with st := .filling, blocks := 2, record := some ⟨7, 2⟩, source := some .page,
                        phase := some .queued }
    |>.set 4 { Slot.reset with st := .ready, blocks := 4, holds := 1, record := some ⟨8, 9⟩ }
    |>.set 6 { Slot.reset with st := .released, blocks := 1, holds := 1, picture := some .black }
    |>.set 7 { Slot.reset with st := .ready, blocks := 3, record := some ⟨5, 3⟩, picture := some .black }

/-- The desk: a page is settled, PROJ shows it, a commit erases, a telegram waits. -/
def desk : State :=
  { State.reset with
    records := table
    lessons := lessons
    active := some 2
    slots := slots
    freeBlocks := 54
    sin := { Intake.reset with st := .running, inProgress := true, lastGood := some 7 }
    pfd := { Finder.reset with
      st := .settled, hasPrevious := true, liveCorners := some wholeSensor,
      liveSig := some (.replicate 16 5) }
    matchOn := true
    ports := { State.reset.ports with proj := { PortCtx.reset 60 with st := .running } }
    op := some (.commit 4 .erase)
    link := { Link.reset with intake := [⟨0x44, 0x49, 0, 0, 0, 0, []⟩] } }

/-- The desk with no flash operation in flight. -/
def deskIdle : State :=
  { desk with
    op := none
    lessons := lessons.set 4 { Lesson.absent false false with st := .opened, order := [10] } }

theorem test_step_takes_front :
    step { desk with pending := [.findClear, .devIdent] } = exec .findClear { desk with pending := [.devIdent] } :=
  rfl

theorem test_step_idles : step desk = .next desk := by rfl

/-! ### The hypotheses of the statements on pages can be met -/

theorem test_witness_allocates :
    desk.allocates 1 ∧ desk.placeable .owner .presenter (some (2, 2)) ∧ desk.placeable .owner .owner none
      ∧ (desk.page 5).st = .opened ∧ desk.placeable .owner (desk.page 5).setup.lock (some (2, 0)) := by
  unfold State.allocates State.placeable
  decide +kernel

theorem test_witness_save_with_freeze :
    desk.allocates 1 ∧ desk.placeable .owner .presenter (some (2, 0)) ∧ desk.canFreeze .page
      ∧ desk.canFreeze .proj ∧ desk.takesSlot 0 ∧ desk.freezeBlocks .proj ≤ desk.freeBlocks
      ∧ desk.freezeBlocks .page ≤ desk.freeBlocks := by
  unfold State.allocates State.placeable State.canFreeze State.takesSlot
  decide +kernel

/-- The desk with every record of 1..63 OPEN. -/
def deskFull : State :=
  { desk with
    records := (Vector.replicate 64 { Record.blank 1 with st := .opened }).set 0 (desk.page 0) }

theorem test_witness_no_free_record :
    (∀ i : Fin 64, i ≠ 0 → (deskFull.page i).st ≠ .free) ∧ deskFull.placeable .presenter .presenter none
      ∧ deskFull.placeable .presenter .presenter (some (2, 0)) := by
  unfold State.placeable
  decide +kernel

/-- Lesson 3's order with 32 entries. -/
def deskCrowded : State :=
  { desk with lessons := lessons.set 2 { lessons[2] with order := List.replicate 32 5 } }

theorem test_witness_placement_refused :
    desk.placementRefusal .owner .presenter 0 0 = some .range
      ∧ desk.placementRefusal .owner .presenter 5 0 = some .busy
      ∧ desk.placementRefusal .owner .presenter 1 0 = some .state
      ∧ desk.placementRefusal .presenter .owner 3 0 = some .locked
      ∧ deskCrowded.placementRefusal .owner .presenter 3 0 = some .full
      ∧ desk.placementRefusal .owner .presenter 3 3 = some .range
      ∧ desk.placementRefusal .owner .presenter 3 2 = none := by decide +kernel

theorem test_witness_save_refused :
    (0 < 1 ∨ 3 < 0) ∧ (∀ n, some 3 = some n → 1 ≤ n ∧ n ≤ 3)
      ∧ ¬ State.canFreeze { desk with ports := State.reset.ports } .proj ∧ deskFull.canFreeze .proj
      ∧ (deskFull.slot 0).st = .free ∧ deskFull.freezeBlocks .proj ≤ deskFull.freeBlocks
      ∧ desk.placementRefusal .owner .presenter 3 3 = some .range
      ∧ deskFull.placementRefusal .owner .presenter 3 2 = none := by
  unfold State.canFreeze
  refine ⟨by decide, fun n h => by cases h; decide, by decide +kernel⟩

theorem test_witness_editable :
    desk.editable .owner 5 ∧ desk.editable .presenter 0 ∧ desk.editable .presenter 7 := by
  unfold State.editable
  decide +kernel

theorem test_witness_page_set :
    desk.editable .owner 5 ∧ isLabel [0x20] ∧ isLabel (List.replicate 24 0x7E)
      ∧ onSensor ⟨4095, 3071⟩ ∧ Preset.bad ⟨256, 0, 4095⟩ = false ∧ Preset.bad ⟨2048, 4095, 0⟩ = false := by
  unfold State.editable isLabel onSensor
  decide +kernel

theorem test_witness_page_set_ranges :
    (∃ c ∈ [(0x1F : Byte)], c.toNat < 0x20 ∨ 0x7E < c.toNat)
      ∧ (∃ p ∈ [(⟨0, 3072⟩ : Point)], 4095 < p.x ∨ 3071 < p.y) ∧ (255 < 256 ∨ 2048 < 255) := by
  decide

theorem test_witness_zone_and_lock :
    desk.editable .owner 5 ∧ (1 : BitVec 12) ≠ 0 ∧ (0x80 : Byte) ≠ 0 ∧ (5 : Fin 64) ≠ 0
      ∧ Level.owner.rank ≤ Level.owner.rank := by
  unfold State.editable
  decide +kernel

theorem test_witness_marks :
    desk.editable .presenter 0 ∧ markInRange ⟨.cover, 0, 0, 1, 1⟩ ∧ markInRange ⟨.outline, 4094, 4094, 4095, 4095⟩
      ∧ 1 ≤ [(⟨.cover, 0, 0, 1, 1⟩ : Mark)].length
      ∧ (List.replicate 8 (⟨.cover, 0, 0, 1, 1⟩ : Mark)).length ≤ 8 := by
  unfold State.editable markInRange
  decide +kernel

theorem test_witness_sign :
    (5 : Fin 64) ≠ 0 ∧ desk.editable .owner 5 ∧ desk.pfd.liveSig = some (.replicate 16 5)
      ∧ State.reset.pfd.liveSig = none := by
  unfold State.editable
  decide +kernel

theorem test_witness_handles :
    63 < (64 : Byte).toNat ∧ (5 : Byte).toNat = (5 : Fin 64).val ∧ (2 : Byte) ≠ (desk.page 5).gen
      ∧ (desk.page 1).st ≠ .opened := by decide +kernel

theorem test_witness_lock_then_commit :
    (desk.page 5).st = .opened ∧ Level.presenter.rank < (desk.page 5).setup.lock.rank
      ∧ (desk.page 10).st = .opened ∧ (desk.page 10).setup.lock.rank ≤ Level.presenter.rank
      ∧ (desk.page 10).lesson = some 4 ∧ (desk.lesson 4).st = .committing := by decide +kernel

theorem test_witness_no_members :
    picks .allPages (fun _ => true) ∧ (∀ i : Fin 64, i ≠ 0 → (State.reset.page i).st ≠ .opened)
      ∧ picks (.group 8) (fun r => r.setup.groups.getLsbD 7)
      ∧ (∀ i : Fin 64, i ≠ 0 → (desk.page i).st = .opened → (desk.page i).setup.groups.getLsbD 7 = false)
      ∧ (0 < 1 ∨ 8 < 0) ∧ 8 < 9 :=
  ⟨.inl ⟨rfl, rfl⟩, by decide +kernel, .inr ⟨7, rfl, rfl⟩, by decide +kernel, by decide, by decide⟩

theorem test_witness_edits_refused :
    desk.editRefusal .admin .owner true ⟨64, 0⟩ = some .range
      ∧ desk.editRefusal .admin .presenter false ⟨0, 0⟩ = some .target
      ∧ desk.editRefusal .admin .presenter true ⟨0, 0⟩ = none
      ∧ desk.editRefusal .admin .owner true ⟨5, 2⟩ = some .stale
      ∧ desk.editRefusal .presenter .owner true ⟨5, 3⟩ = some .locked
      ∧ desk.editRefusal .presenter .presenter true ⟨10, 1⟩ = some .busy
      ∧ desk.editRefusal .owner .owner false ⟨5, 3⟩ = none := by decide +kernel

theorem test_witness_edit_payloads_refused :
    (1 : BitVec 12) ≠ 0 ∧ ([] : List MarkArg).length ≠ 1 ∧ ¬ markInRange ⟨.cover, 4094, 0, 4096, 1⟩
      ∧ [(⟨.other, 0, 0, 1, 1⟩ : MarkArg)].length = 1 ∧ (∃ n ∈ [16], 15 < n) ∧ (∀ n ∈ [15], n ≤ 15)
      ∧ ([15] : List Nat).length ≠ 16 := by
  unfold markInRange
  decide

theorem test_edit_payloads_refused :
    exec (.pageZone .admin (.group 9) ⟨some .other, some ⟨0, .other⟩⟩) desk
        = answers desk .argument (.group 0 0 none)
      ∧ exec (.pageMarks .admin ⟨64, 0⟩ ⟨8, 2, [⟨.other, 0, 0, 1, 1⟩]⟩) desk = answers desk .argument .empty
      ∧ exec (.pageSign .admin ⟨5, 3⟩ ⟨.val .given, [16], 0, .val true⟩) desk = answers desk .range .empty := by
  refine ⟨rfl, rfl, rfl⟩

theorem test_witness_retire_in_lesson :
    desk.editable .presenter 6 ∧ (desk.page 6).lesson = some 2
      ∧ (desk.lesson 2).lock.rank ≤ Level.presenter.rank ∧ (6 : Fin 64) ∈ (desk.lesson 2).order
      ∧ (desk.page 6).selRefs = 0 ∧ (desk.page 6).cycRefs = 0 ∧ (desk.page 6).still = none := by
  unfold State.editable
  decide +kernel

theorem test_witness_retire_with_still :
    desk.editable .owner 5 ∧ (desk.lesson 2).lock.rank ≤ Level.owner.rank ∧ (5 : Fin 64) ∈ (desk.lesson 2).order
      ∧ (desk.page 5).selRefs = 0 ∧ (desk.page 5).cycRefs = 0 ∧ (desk.page 5).holds = 0
      ∧ (desk.page 5).still = some 7 ∧ (desk.page 5).fill ≠ some 7 := by
  unfold State.editable
  decide +kernel

/-- The desk with lesson 3 locked to ADMIN. -/
def deskLocked : State :=
  { desk with lessons := lessons.set 2 { lessons[2] with lock := .admin } }

/-- The desk with record 6 named by a staged selection. -/
def deskShown : State :=
  { desk with
    records := table.set 6 { record6 with selRefs := 1 }
    views := desk.views.set .proj { ViewCtx.reset with staged := { Half.reset with sel := .page ⟨6, 1⟩ } } }

theorem test_witness_retire_refusals :
    deskLocked.editable .owner 6 ∧ (deskLocked.page 6).lesson = some 2
      ∧ Level.owner.rank < (deskLocked.lesson 2).lock.rank
      ∧ deskShown.editable .owner 6 ∧ (deskShown.lesson 2).lock.rank ≤ Level.owner.rank
      ∧ 0 < (deskShown.page 6).selRefs := by
  unfold State.editable
  decide +kernel

theorem test_witness_members_singly :
    (5 : Fin 64) ≠ 0 ∧ (desk.page 5).st = .opened ∧ desk.retireRefusal .presenter 5 = some .locked
      ∧ desk.retireRefusal .owner 5 = none ∧ deskShown.retireRefusal .owner 6 = some .referenced
      ∧ desk.refusal .owner .presenter 10 = some .busy := by decide +kernel

/-! ### Those of the statements on lessons and stills -/

theorem test_witness_lesson_states :
    (desk.lesson 2).st = .opened ∧ (desk.lesson 4).st = .committing ∧ (desk.lesson 0).st = .absent
      ∧ (desk.lesson 0).stored = false ∧ (desk.lesson 5).st = .absent ∧ (desk.lesson 5).stored = true := by
  decide +kernel

/-- The desk with lesson 8 LOADING: records 9 and 11, the first with slot 5. -/
def deskLoading : State :=
  { desk with
    records := table.set 9 { Record.blank 4 with st := .loading, fill := some 5 } |>.set 11
      { Record.blank 2 with st := .loading }
    lessons := lessons.set 7 { Lesson.absent true false with st := .loading }
    slots := slots.set 5
      { Slot.reset with st := .filling, blocks := 2, record := some ⟨9, 4⟩, source := some .load }
    freeBlocks := 52
    op := some (.load 7 .header) }

theorem test_witness_loading :
    (deskLoading.lesson 7).st = .loading ∧ deskLoading.fillsApart ∧ deskLoading.loadings = [9, 11]
      ∧ deskLoading.op = some (.load 7 .header) := by
  unfold State.fillsApart
  decide +kernel

theorem test_witness_lesson_open :
    (Level.owner.rank ≤ Level.owner.rank) ∧ Level.presenter.rank < Level.owner.rank ∧ isLabel [0x41] := by
  unfold isLabel
  decide

theorem test_witness_lesson_set :
    (desk.lesson 2).st = .opened ∧ (desk.lesson 2).lock.rank ≤ Level.presenter.rank := by decide +kernel

theorem test_witness_lesson_set_refusals :
    (∃ c ∈ [(0x7F : Byte)], c.toNat < 0x20 ∨ 0x7E < c.toNat) ∧ isLabel [0x41] ∧ (desk.lesson 4).st = .committing
      ∧ (desk.lesson 0).st = .absent ∧ (deskLocked.lesson 2).st = .opened
      ∧ Level.owner.rank < (deskLocked.lesson 2).lock.rank ∧ Level.presenter.rank < Level.owner.rank := by
  unfold isLabel
  decide +kernel

theorem test_witness_place_refused :
    desk.placeRefusal .owner ⟨7, 2⟩ 3 33 = some .range ∧ desk.placeRefusal .owner ⟨64, 2⟩ 3 0 = some .range
      ∧ desk.placeRefusal .owner ⟨0, 0⟩ 3 0 = some .target ∧ desk.placeRefusal .owner ⟨7, 1⟩ 3 0 = some .stale
      ∧ desk.placeRefusal .presenter ⟨5, 3⟩ 3 0 = some .locked ∧ desk.placeRefusal .owner ⟨7, 2⟩ 5 0 = some .busy
      ∧ desk.placeRefusal .owner ⟨7, 2⟩ 1 0 = some .state ∧ deskLocked.placeRefusal .owner ⟨7, 2⟩ 3 0 = some .locked
      ∧ desk.placeRefusal .owner ⟨6, 1⟩ 3 0 = some .state ∧ desk.placeRefusal .owner ⟨10, (desk.page 10).gen⟩ 3 0 = some .busy
      ∧ deskCrowded.placeRefusal .owner ⟨7, 2⟩ 3 0 = some .full ∧ desk.placeRefusal .owner ⟨7, 2⟩ 3 3 = some .range
      ∧ desk.placeRefusal .owner ⟨7, 2⟩ 3 2 = none := by decide +kernel

theorem test_witness_entry_refused :
    desk.entryRefusal .owner 9 0 0 = some .range ∧ desk.entryRefusal .owner 5 0 0 = some .busy
      ∧ desk.entryRefusal .owner 1 0 0 = some .state ∧ deskLocked.entryRefusal .owner 3 0 0 = some .locked
      ∧ desk.entryRefusal .owner 3 0 2 = some .range ∧ desk.entryRefusal .presenter 3 0 1 = some .locked
      ∧ desk.entryRefusal .presenter 3 1 0 = none := by decide +kernel

theorem test_witness_place_loose :
    (desk.page 7).st = .opened ∧ (desk.page 7).lesson = none
      ∧ (desk.page 7).setup.lock.rank ≤ Level.presenter.rank
      ∧ desk.placeable .presenter .presenter (some (2, 0)) := by
  unfold State.placeable
  decide +kernel

theorem test_witness_place_from_another_lesson :
    (deskIdle.page 6).lesson = some 2 ∧ (2 : Fin 8) ≠ 4 ∧ (deskIdle.lesson 2).st ≠ .committing
      ∧ (deskIdle.lesson 2).lock.rank ≤ Level.presenter.rank ∧ (6 : Fin 64) ∈ (deskIdle.lesson 2).order
      ∧ deskIdle.placeable .presenter .presenter (some (4, 1)) := by
  unfold State.placeable
  decide +kernel

theorem test_witness_move_and_remove :
    (desk.lesson 2).order.length ≤ 32 ∧ (desk.lesson 2).order[1]? = some 6
      ∧ 0 < (desk.lesson 2).order.length ∧ (desk.page 6).setup.lock.rank ≤ Level.presenter.rank := by
  decide +kernel

theorem test_witness_cursor :
    1 < [(5 : Fin 64), 6].length ∧ 2 ≤ [(5 : Fin 64), 6].length ∧ [(5 : Fin 64), 6][0]? = some 5 := by decide

theorem test_witness_steps :
    desk.active = some 2 ∧ (desk.lesson 2).order ≠ []
      ∧ (desk.lesson 2).order[steppedTo .next 0 (desk.lesson 2).cursor 2]? = some 6
      ∧ (desk.lesson 2).order[steppedTo .prev 0 (desk.lesson 2).cursor 2]? = some 5
      ∧ (desk.lesson 2).order[steppedTo .first 0 (desk.lesson 2).cursor 2]? = some 5
      ∧ (desk.lesson 2).order[steppedTo .last 0 (desk.lesson 2).cursor 2]? = some 6 := by decide +kernel

theorem test_witness_no_pages : State.reset.active = none := rfl

theorem test_witness_steps_refused :
    31 < 32 ∧ StepKind.last ≠ .position ∧ desk.active = some 2 ∧ (desk.lesson 2).st = .opened
      ∧ (desk.lesson 2).order ≠ [] ∧ (desk.lesson 2).order.length ≤ 2 ∧ 2 ≤ 31 := by decide +kernel

theorem test_witness_staging :
    ∀ i : Fin 64, (deskShown.followersOn i).length ≤ (deskShown.page i).selRefs := by decide +kernel

theorem test_witness_evict :
    (desk.lesson 2).st = .opened ∧ (desk.lesson 2).dirty = false ∧ desk.orderAgrees 2
      ∧ ∀ i ∈ (desk.lesson 2).order, (desk.page i).setup.lock.rank ≤ Level.owner.rank
        ∧ (desk.page i).selRefs = 0 ∧ (desk.page i).cycRefs = 0 := by
  refine ⟨by decide +kernel, by decide +kernel, ⟨by decide +kernel, by decide +kernel, ?_⟩, by decide +kernel⟩
  unfold State.ownsSlot
  exact fun i hi => ⟨by revert i; decide +kernel, by revert i; decide +kernel⟩

theorem test_witness_evict_refusals :
    ({ desk with lessons := lessons.set 2 { lessons[2] with dirty := true } }.lesson 2).dirty = true
      ∧ (6 : Fin 64) ∈ (deskShown.lesson 2).order ∧ 0 < (deskShown.page 6).selRefs
      ∧ ∀ j ∈ (deskShown.lesson 2).order, j < 6 → (deskShown.page j).selRefs = 0 := by decide +kernel

theorem test_witness_evict_checks :
    (desk.lesson 4).st = .committing ∧ (desk.lesson 0).st = .absent ∧ (deskLoading.lesson 7).st = .loading
      ∧ (deskLocked.lesson 2).st = .opened ∧ Level.owner.rank < (deskLocked.lesson 2).lock.rank
      ∧ (5 : Fin 64) ∈ (desk.lesson 2).order ∧ (desk.lesson 2).lock.rank ≤ Level.presenter.rank
      ∧ Level.presenter.rank < (desk.page 5).setup.lock.rank
      ∧ ∀ j ∈ (desk.lesson 2).order, j < 5 → (desk.page j).setup.lock.rank ≤ Level.presenter.rank := by
  decide +kernel

theorem test_witness_freeze :
    desk.editable .owner 5 ∧ (desk.page 5).fill = none ∧ desk.canFreeze .proj ∧ desk.takesSlot 0
      ∧ desk.freezeBlocks .proj ≤ desk.freeBlocks := by
  unfold State.editable State.canFreeze State.takesSlot
  decide +kernel

theorem test_witness_freeze_refusals :
    (desk.page 7).fill.isSome ∧ ¬ State.canFreeze { desk with ports := State.reset.ports } .proj
      ∧ (∀ k : Fin 24, (State.slot { desk with slots := .replicate 24 slots[7] } k).st ≠ .free)
      ∧ (State.slot { desk with freeBlocks := 2 } 0).st = .free
      ∧ (2 : Nat) < State.freezeBlocks { desk with freeBlocks := 2 } .proj := by
  unfold State.canFreeze
  decide +kernel

theorem test_witness_block_count : desk.cornerChoice = some wholeSensor := by decide +kernel

theorem test_block_count_of_whole_sensor :
    desk.freezeBlocks .page = 12 ∧ desk.freezeBlocks .proj = 3 := by decide +kernel

theorem test_witness_drop :
    desk.editable .owner 5 ∧ (desk.page 5).still = some 7 ∧ (desk.page 5).fill ≠ some 7 := by
  unfold State.editable
  decide +kernel

theorem test_witness_fill_completion :
    (7 : Fin 64) ≠ 0 ∧ (desk.slot 3).record = some ⟨7, 2⟩ ∧ (desk.page 7).still ≠ some 3 := by decide +kernel

/-! ### Those of the statements on the finder, the matcher, the tables and the lens bus -/

/-- The desk on a frame that is the settling one. -/
def deskArriving : State :=
  { desk with pfd := { desk.pfd with st := .arriving, stable := 7 } }

/-- The desk on the frame that removes the page. -/
def deskEmptying : State := { desk with pfd := { desk.pfd with missing := 3 } }

theorem test_witness_intake_frames :
    desk.sin.inProgress = true ∧ State.reset.sin.inProgress = false ∧ desk.sin.st = .running
      ∧ ((intakeFrame none ⟨0, 1⟩).full = true ∧ { intakeFrame none ⟨0, 1⟩ with full := false }.full = false)
      ∧ (desk.slot 3).st = .filling ∧ (desk.slot 3).source = some .page ∧ (desk.slot 3).phase = some .queued := by
  decide +kernel

/-- The desk empty, with a settle count of 1. -/
def deskEmpty : State :=
  { desk with pfd := { desk.pfd with st := .empty, settings := { desk.pfd.settings with settle := 1 } } }

theorem test_witness_settle_event :
    deskArriving.settlesAt (intakeFrame (some wholeSensor) ⟨1, 2⟩) wholeSensor
      ∧ deskEmpty.settlesAt (intakeFrame (some wholeSensor) ⟨1, 2⟩) wholeSensor := by
  unfold State.settlesAt
  decide +kernel

/-- The same with auto-focus on and a focus level the frame does not reach. -/
def deskBlurred : State :=
  { deskArriving with
    lens := { Lens.reset with autoFocus := true }
    pfd := { deskArriving.pfd with settings := { deskArriving.pfd.settings with focusLow := 200 } } }

theorem test_witness_focus_run :
    deskBlurred.settlesAt (intakeFrame (some wholeSensor) ⟨1, 2⟩) wholeSensor ∧ deskBlurred.pfd.run = .idle
      ∧ deskBlurred.lens.autoFocus = true ∧ deskBlurred.lens.auto = none
      ∧ ((deskBlurred.frameEnd (intakeFrame (some wholeSensor) ⟨1, 2⟩)).pfd.flags.focusLow = true
        ∧ (deskBlurred.frameEnd (intakeFrame (some wholeSensor) ⟨1, 2⟩)).pfd.run = .starting)
      ∧ deskArriving.lens.autoFocus = false := by
  unfold State.settlesAt
  decide +kernel

theorem test_witness_tracking :
    ({ desk.pfd.settings with tracking := .continuous } : FinderSettings).tracking = .continuous
      ∧ ({ desk.pfd.settings with tracking := .off } : FinderSettings).tracking = .off
      ∧ (intakeFrame none ⟨0, 1⟩).outline = none := by decide +kernel

theorem test_witness_settle_runs_matcher :
    (∀ l : Fin 8, (0 : Fin 64) ∉ (deskArriving.lesson l).order) ∧ deskArriving.matchOn = true
      ∧ deskArriving.active = some 2 ∧ (deskArriving.lesson 2).st = .opened
      ∧ deskArriving.scan 2 (liveSignature (intakeFrame (some wholeSensor) ⟨5, 16⟩).ink
        (deskArriving.page 0).setup.rotation (deskArriving.page 0).setup.mirror) = some 0
      ∧ (deskArriving.lesson 2).order[0]? = some 5
      ∧ deskArriving.scan 2 (liveSignature (intakeFrame (some wholeSensor) ⟨1, 2⟩).ink
        (deskArriving.page 0).setup.rotation (deskArriving.page 0).setup.mirror) = none := by decide +kernel

/-- A fills agreement from checks over the tables alone. -/
theorem fillsAgree_of_tables (s : State) (src : FillSource)
    (h : ∀ k : Fin 24, (s.slot k).st = .filling → (s.slot k).source = some src →
      ∃ i : Fin 64, i ≠ 0 ∧ (s.slot k).record.map (fun h => h.idx) = some i
        ∧ ∀ j : Fin 64, (s.page j).fill = some k ↔ j = i)
    (g : ∀ (i j : Fin 64) (k : Fin 24), (s.page i).still = some k →
      (s.slot k).st ≠ .filling ∧ ((s.page j).still = some k → i = j)) : s.fillsAgree src := by
  refine ⟨fun k hk hs => ?_, g⟩
  obtain ⟨i, hi, hr, hf⟩ := h k hk hs
  cases hx : (s.slot k).record with
  | none => simp [hx] at hr
  | some x =>
    rw [hx] at hr
    obtain rfl := Option.some.inj hr
    exact ⟨x.idx, x.gen, hi, rfl, hf⟩

/-- The desk with record 7's fill CAPTURING on the frame in progress. -/
def deskCapturing : State :=
  { desk with slots := slots.set 3 { slots[3] with phase := some .capturing, capture := some wholeSensor } }

theorem test_witness_page_fills :
    deskCapturing.sin.inProgress = true ∧ deskCapturing.fillsAgree .page ∧ deskCapturing.capturing .page 3
      ∧ (deskCapturing.page 7).fill = some 3 := by
  refine ⟨by decide +kernel, fillsAgree_of_tables _ _ (by decide +kernel) (by decide +kernel), ?_, by decide +kernel⟩
  unfold State.capturing
  decide +kernel

theorem test_witness_removal_event :
    deskEmptying.sin.st = .running ∧ deskEmptying.pfd.st = .settled
      ∧ deskEmptying.pfd.settings.missing ≤ deskEmptying.pfd.missing + 1 := by decide +kernel

theorem test_witness_ink : 0 < 16 ∧ 15 ≤ 16 ∧ (inkNibble ⟨15, 16⟩).toNat = 15 ∧ (inkNibble ⟨16, 16⟩).toNat = 15
    ∧ (inkNibble ⟨1, 16⟩).toNat = 1 ∧ (inkNibble ⟨0, 1⟩).toNat = 0 := by decide

/-- The desk with auto-lamp on and the counters at 3. -/
def deskLamp (sync : Bool) : State :=
  { desk with
    lens := { Lens.reset with autoLamp := true }
    pfd := { desk.pfd with syncPending := sync, darkCount := 3, brightCount := 3 } }

theorem test_witness_lamp :
    (deskLamp true).pfd.st = .settled ∧ (deskLamp true).pfd.run ≠ .starting ∧ (deskLamp true).lens.auto = none
      ∧ (deskLamp true).lens.autoLamp = true ∧ (deskLamp true).pfd.syncPending = true
      ∧ (deskLamp false).pfd.syncPending = false ∧ (3 : Nat) ≤ (deskLamp false).pfd.settings.dark
      ∧ (14 : Nat) ≥ (deskLamp false).pfd.settings.bright ∧ 3 ≤ (deskLamp false).pfd.darkCount
      ∧ (9 : Fin 16).val = (deskLamp false).pfd.lamp.val + 1 ∧ (7 : Fin 16).val + 1 = (deskLamp false).pfd.lamp.val := by
  decide +kernel

theorem test_witness_lamp_held :
    (deskLamp true).startsRunAt (intakeFrame none ⟨0, 1⟩) = False
      ∧ deskBlurred.startsRunAt (intakeFrame (some wholeSensor) ⟨1, 2⟩)
      ∧ desk.lens.autoLamp = false ∧ ({ Lens.reset with auto := some ⟨.focusPoll, 0x28, false⟩ } : Lens).auto.isSome
      ∧ ({ deskLamp true with sin := { desk.sin with st := .lost } } : State).sin.st ≠ .running
      ∧ min 4 ((deskLamp false).pfd.darkCount + 1) = 4 ∧ (0 : Fin 16).val = 0 ∧ (15 : Fin 16).val = 15 := by
  unfold State.startsRunAt
  simp only [eq_iff_iff, iff_false]
  decide +kernel

theorem test_witness_intake_timeout :
    desk.sin.st ≠ .lost ∧ ({ desk with sin := { desk.sin with st := .lost } } : State).sin.st = .lost
      ∧ (desk.slot 3).record = some ⟨7, 2⟩ ∧ (desk.page 7).fill = some 3 := by decide +kernel

theorem test_witness_focus_cancelled :
    ({ desk.pfd with run := .polling } : Finder).run ≠ .idle
      ∧ (Lens.runCancelled { Lens.reset with auto := some ⟨.focusPoll, 0x28, false⟩, bus := .bridgeOnBus }).auto = none
      ∧ (Lens.runCancelled { Lens.reset with auto := some ⟨.focusPoll, 0x28, false⟩, bus := .autoOnBus }).auto
        = some ⟨.focusPoll, 0x28, true⟩
      ∧ (Lens.runCancelled { Lens.reset with auto := some ⟨.lampSet 3 true, 0x2C, false⟩ }).auto
        = some ⟨.lampSet 3 true, 0x2C, false⟩ := by decide +kernel

theorem test_witness_find_setup :
    (30 : Nat) ≤ 30 ∧ (some 14).getD desk.pfd.settings.dark < (some 15).getD desk.pfd.settings.bright := by
  decide +kernel

theorem test_find_setup_refusals :
    exec (.findSetup .presenter ⟨some 31, none, none, none, some 14, none, none, none, none⟩) desk
        = answers desk .range .empty
      ∧ exec (.findSetup .presenter ⟨none, none, none, none, some 14, none, none, none, none⟩) desk
        = answers desk .range .empty
      ∧ exec (.findSetup .presenter ⟨none, none, none, none, some 13, none, none, none, none⟩) desk
        = answers desk .locked .empty := by
  refine ⟨rfl, rfl, rfl⟩

theorem test_witness_intake_runs_again :
    ({ desk with sin := { desk.sin with st := .lost, good := 1 } } : State).sin.st = .lost
      ∧ ({ desk with sin := { desk.sin with st := .waiting } } : State).sin.inProgress = true := by decide +kernel

theorem test_first_frame_after_loss :
    (({ desk with sin := { desk.sin with st := .lost, good := 1 } } : State).frameEnd
        (intakeFrame none ⟨0, 1⟩)).pfd.hasPrevious = false := by decide +kernel

theorem test_witness_match_try_refused :
    ([1] : List Nat).length ≠ 16 ∧ (List.replicate 16 16).length = 16 ∧ (∃ n ∈ List.replicate 16 16, 15 < n)
      ∧ (8 < 9) ∧ State.reset.active = none ∧ (deskLoading.lesson 7).st = .loading := by decide +kernel

theorem test_witness_matcher :
    desk.matchOn = true ∧ desk.active = some 2 ∧ desk.scan 2 (.replicate 16 5) = some 0
      ∧ desk.scan 2 (.replicate 16 9) = none ∧ State.reset.matchOn = false := by decide +kernel

theorem test_witness_match_try :
    (desk.lesson 2).st = .opened ∧ desk.pfd.liveSig = some (.replicate 16 5) ∧ State.reset.pfd.liveSig = none := by
  decide +kernel

/-- The light level of the latest measures for the live page, none while there are none, and a PAGE still's own. -/
theorem test_frame_light :
    State.reset.frameLight .livePage (some 3) = none
      ∧ ({ State.reset with pfd := { State.reset.pfd with latest := some ⟨true, 0, 0, 9, 0⟩ } } :
          State).frameLight .livePage (some 3) = some 9
      ∧ State.reset.frameLight .pageStill (some 3) = some (State.reset.slot 3).light := by decide +kernel

theorem test_witness_bands : detailEntry 256 = (0 : Fin 32).val ∧ detailEntry 2048 = (31 : Fin 32).val := by
  decide

theorem test_witness_band_rows :
    bandRows 0 256 2048 = ⟨0, 342⟩ ∧ bandRows 11 256 2048 = ⟨3755, 4096⟩ ∧ bandRows 5 2048 2048 = ⟨1792, 2048⟩
      ∧ (bandRows 0 2048 2048).crossed = false ∧ bandOfRow 341 = 0 ∧ bandOfRow 342 = 1
      ∧ (bandRows 0 256 2048).top ≤ 341 ∧ 341 < (bandRows 0 256 2048).bottom := by decide

theorem test_enhancement_acts :
    Band.acts ⟨some .invert, 3, 16, true⟩ ⟨0, 342⟩ = [.invert ⟨0, 342⟩, .sharpen ⟨0, 342⟩ 3 16]
      ∧ Band.acts ⟨some .plain, 0, 0, false⟩ ⟨0, 342⟩ = []
      ∧ (BandAct.invert ⟨0, 342⟩).tone 341 255 0 = 255 ∧ (BandAct.invert ⟨0, 342⟩).tone 342 255 0 = 0
      ∧ (BandAct.sharpen ⟨0, 342⟩ 9 0).contrast 342 16 = 16
      ∧ sharpenedContrast 9 16 16 = 16 ∧ sharpenedContrast 9 255 255 = 255 := by decide

theorem test_witness_lowest_view : lowestIn 7 .proj ∧ lowestIn 6 .strm ∧ lowestIn 4 .panel := by
  unfold lowestIn
  refine ⟨⟨rfl, by decide, ?_⟩, ⟨rfl, by decide, ?_⟩, ⟨rfl, by decide, ?_⟩⟩ <;> intro w <;> cases w <;> decide

theorem test_set_refusals :
    exec (.portStop .admin 8) desk = answers desk .range .empty
      ∧ exec (.portReset .presenter 0) desk = answers desk .target .empty
      ∧ exec (.portReset .presenter 1) desk = answers desk .locked .empty
      ∧ exec (.cycleClear 0) desk = answers desk .target .empty ∧ exec (.viewRead 8) desk = answers desk .range .empty
      ∧ exec (.detailReadBandSet 255) desk = answers desk .range .empty := by
  refine ⟨rfl, rfl, rfl, rfl, rfl, rfl⟩

theorem test_witness_sets_refused : 8 ≤ (8 : ViewSet).toNat ∧ ¬ 8 ≤ (7 : ViewSet).toNat := by decide

/-- A bus with a focus poll of a run and a bridge read waiting. -/
def busyBus : Lens :=
  { Lens.reset with
    bus := .autoOnBus
    auto := some ⟨.focusPoll, 0x28, false⟩
    bridge := some ⟨.read 2, .lens, 0x28, 0x20, false⟩
    carried := some ⟨⟨0x28, 0x11, .read 1⟩, .k100⟩ }

/-- The same once the bridge read is on the bus. -/
def bridgedBus : Lens :=
  { busyBus with bus := .bridgeOnBus, auto := none, bridge := some ⟨.read 2, .lens, 0x28, 0x20, true⟩,
                 carried := some ⟨⟨0x28, 0x20, .read 2⟩, .k100⟩ }

theorem test_witness_lens_ends :
    busyBus.bus = .autoOnBus ∧ busyBus.auto = some ⟨.focusPoll, 0x28, false⟩ ∧ bridgedBus.bus = .bridgeOnBus
      ∧ bridgedBus.bridge = some ⟨.read 2, .lens, 0x28, 0x20, true⟩
      ∧ busyBus.carried = some ⟨⟨0x28, 0x11, .read 1⟩, .k100⟩
      ∧ bridgedBus.carried = some ⟨⟨0x28, 0x20, .read 2⟩, .k100⟩ ∧ desk.lens.carried = none := by decide +kernel

theorem test_witness_auto_ends :
    (Carried.mk (AutoReq.mk .focusPoll 0x28 false).transaction .k100).tx.acksNeeded ≤ 3
      ∧ ¬ (Carried.mk (AutoReq.mk .focusPoll 0x28 false).transaction .k100).tx.acksNeeded ≤ 2
      ∧ (Carried.mk (AutoReq.mk (.lampSet 9 true) 0x2C false).transaction .k100).tx.acksNeeded ≤ 3
      ∧ (0x03 : Byte).getLsbD 1 = true ∧ (0x01 : Byte).getLsbD 1 = false ∧ (0x01 : Byte).getLsbD 0 = true
      ∧ 28 + 1 < 30 ∧ 29 + 1 = 30 := by decide +kernel

theorem test_focus_poll_on_the_bus :
    untilNack 3 ((AutoReq.mk .focusPoll 0x28 false).transaction.events (.replicate 8 0x02))
        = [.start, .address 0x28 .write, .sent 0x11, .restart, .address 0x28 .read, .received 0x02 false, .stop]
      ∧ untilNack 2 ((AutoReq.mk (.lampSet 9 true) 0x2C false).transaction.events (.replicate 8 0))
        = [.start, .address 0x2C .write, .sent 0x00, .sent 0x09, .stop]
      ∧ untilHeld 1 ((AutoReq.mk .focusStart 0x28 false).transaction.events (.replicate 8 0))
        = [.start, .address 0x28 .write, .stop]
      ∧ untilHeld 2 ((AutoReq.mk .focusPoll 0x28 false).transaction.events (.replicate 8 0))
        = [.start, .address 0x28 .write, .sent 0x11, .stop]
      ∧ untilHeld 3 ((AutoReq.mk .focusPoll 0x28 false).transaction.events (.replicate 8 0))
        = [.start, .address 0x28 .write, .sent 0x11, .restart, .stop] := by decide

theorem test_witness_writes_on_the_bus : 2 ≤ 2 ∧ 2 < 2 + [(9 : Byte)].length ∧ busyBus.bus ≠ .idle := by decide

theorem test_witness_arbiter :
    ({ busyBus with bus := .idle } : Lens).bridge = some ⟨.read 2, .lens, 0x28, 0x20, false⟩
      ∧ ({ busyBus with bus := .idle } : Lens).auto.isSome ∧ ({ busyBus with bus := .idle } : Lens).turn = .auto
      ∧ Lens.reset.auto = none ∧ Lens.reset.bridge = none := by decide +kernel

theorem test_witness_bridge_commands :
    Level.owner.rank ≤ Level.admin.rank ∧ 1 ≤ [(0 : Byte)].length ∧ (List.replicate 8 (0 : Byte)).length ≤ 8
      ∧ desk.lens.bridge = none ∧ busyBus.bridge.isSome := by decide +kernel

theorem test_witness_bridge_refusals :
    8 < (List.replicate 9 (0 : Byte)).length ∧ (Code.other : Code Device) = .other
      ∧ (Code.val Device.lamp) ≠ .other ∧ (0 : Nat) < 1 ∧ 8 < 9 := by decide

/-- The desk with a lens bus. -/
def deskBus (x : Lens) : State := { desk with lens := x }

/-- The bus with a sync write of the lamp, and with the read of a cancelled run. -/
def lampBus : Lens :=
  { Lens.reset with bus := .autoOnBus, auto := some ⟨.lampSet 9 true, 0x2C, false⟩,
                    carried := some ⟨⟨0x2C, 0x00, .write [9]⟩, .k100⟩ }

theorem test_witness_held_clock :
    (deskBus busyBus).lens.carried.isSome ∧ (deskBus busyBus).lens.bus = .autoOnBus
      ∧ (deskBus bridgedBus).lens.carried.isSome ∧ (deskBus bridgedBus).lens.bus = .bridgeOnBus
      ∧ (deskBus lampBus).lens.auto = some ⟨.lampSet 9 true, 0x2C, false⟩
      ∧ (deskBus { busyBus with auto := some ⟨.focusPoll, 0x28, true⟩ }).lens.auto = some ⟨.focusPoll, 0x28, true⟩
      ∧ (deskBus { busyBus with bus := .draining, auto := none }).lens.bus = .draining
      ∧ ({ bridgedBus with bridge := some ⟨.write [1], .lamp, 0x2C, 0, true⟩ } : Lens).bridge
        = some ⟨.write [1], .lamp, 0x2C, 0, true⟩ := by decide +kernel

theorem test_witness_draining : ({ busyBus with bus := .draining, auto := none } : Lens).consistent :=
  ⟨rfl, fun _ h => by cases h; rfl⟩

/-! ### Those of the statements on views and ports -/

theorem test_witness_view_writes :
    (3 : ViewSet) ≠ 0 ∧ (7 : ViewSet).toNat < 8 ∧ ∀ i : Fin 64,
      deskShown.naming 3 (fun c => c.staged.sel.page?) i ≤ (deskShown.page i).selRefs
        ∧ deskShown.naming 3 (fun c => c.fallback.page?) i ≤ (deskShown.page i).selRefs := by decide +kernel

theorem test_witness_page_selection :
    (6 : Fin 64) ≠ 0 ∧ (desk.page 6).st = .opened ∧ 63 < (64 : Byte).toNat ∧ (desk.page 1).st ≠ .opened
      ∧ (0 : Byte) = 0 := by decide +kernel

theorem test_witness_selections_refused :
    desk.selectionRefusal 1 false true none = some .range ∧ desk.selectionRefusal 9 true true none = some .argument
      ∧ desk.selectionRefusal 9 true false (some ⟨6, 1⟩) = some .argument
      ∧ desk.selectionRefusal 8 true true (some ⟨64, 1⟩) = some .range
      ∧ desk.selectionRefusal 0 true true (some ⟨6, 1⟩) = some .target
      ∧ desk.selectionRefusal 7 true true (some ⟨0, 0⟩) = some .range
      ∧ desk.selectionRefusal 7 true true (some ⟨6, 2⟩) = some .stale
      ∧ desk.selectionRefusal 7 true true (some ⟨6, 1⟩) = none
      ∧ desk.selectionRefusal 7 true false none = none := by decide +kernel

theorem test_selections_refused :
    exec (.viewSelect 1 ⟨.val .live, none, some .other⟩) desk = answers desk .range .empty
      ∧ exec (.viewFallback .presenter 1 ⟨.val .page, some ⟨6, 2⟩⟩) desk = answers desk .stale .empty
      ∧ exec (.viewFallback .presenter 1 ⟨.val .page, some ⟨6, 1⟩⟩) desk = answers desk .locked .empty := by
  refine ⟨rfl, rfl, rfl⟩

theorem test_witness_ramp :
    (896 + 64 < 1001) ∧ (960 ≤ 1001 + 64 ∧ 1001 ≤ 960 + 64) ∧ (256 + 64 < 2048) ∧ 1001 % 4 ≠ 0 ∧ (0 < 1001 % 4)
      ∧ (1001 % 4 ≤ 1) := by decide

theorem test_witness_frame_start :
    (desk.port .proj).st = .running ∧ (desk.port .proj).frame = none := by decide +kernel

/-- A frame in flight that shows record 5 by its still. -/
def stillFrame : FlightFrame := ⟨⟨.pageStill, some ⟨5, 3⟩, some 7, .none, none, false⟩, .black⟩

/-- The desk with PROJ's frame in flight on record 5's still. -/
def deskShowing : State :=
  { desk with
    records := table.set 5 { record5 with holds := 1 }
    slots := slots.set 7 { slots[7] with holds := 1 }
    ports := { desk.ports with proj := { desk.ports.proj with frame := some stillFrame } } }

theorem test_witness_frame_end : (deskShowing.port .proj).frame = some stillFrame := by decide +kernel

theorem test_witness_port_commands :
    (1 : ViewSet) ≠ 0 ∧ (∀ v ∈ viewsOf 1, (desk.port v).st = .running) ∧ (∃ v ∈ viewsOf 6, (desk.port v).st = .off)
      ∧ desk.ports.proj.stopped.st = .off ∧ deskShowing.ports.proj.stopped.st = .stopping
      ∧ desk.ports.proj.frame = none := by decide +kernel

/-- The desk with a fill from PROJ queued for record 6. -/
def deskProjFill : State :=
  { desk with
    records := table.set 6 { record6 with fill := some 0 }
    slots := slots.set 0
      { Slot.reset with st := .filling, blocks := 3, kind := .composed, record := some ⟨6, 1⟩,
                        source := some .proj, phase := some .queued }
    freeBlocks := 51 }

theorem test_witness_proj_fill :
    (deskProjFill.slot 0).st = .filling ∧ (deskProjFill.slot 0).source = some .proj
      ∧ (deskProjFill.slot 0).record = some ⟨6, 1⟩ ∧ (deskProjFill.page 6).fill = some 0 := by decide +kernel

theorem test_witness_abort : deskProjFill.fillsAgree .proj :=
  fillsAgree_of_tables _ _ (by decide +kernel) (by decide +kernel)

/-- The desk with PROJ STOPPING, its frame in flight, record 6's fill CAPTURING on it and record 5's QUEUED. -/
def deskProjStopping : State :=
  { deskProjFill with
    records := (deskProjFill.records.set 5 { record5 with holds := 1, fill := some 1 })
    slots := (deskProjFill.slots.set 0 { deskProjFill.slots[0] with phase := some .capturing } |>.set 1
      { Slot.reset with st := .filling, blocks := 3, kind := .composed, record := some ⟨5, 3⟩,
                        source := some .proj, phase := some .queued }).set 7 { slots[7] with holds := 1 }
    freeBlocks := 48
    ports := { desk.ports with
      proj := { desk.ports.proj with st := .stopping, frame := some stillFrame } } }

theorem test_witness_proj_frame_end :
    deskProjStopping.ports.proj.frame = some stillFrame
      ∧ (deskProjStopping.releaseHolds stillFrame.source).fillsAgree .proj
      ∧ (deskProjStopping.releaseHolds stillFrame.source).capturing .proj 0
      ∧ ((deskProjStopping.releaseHolds stillFrame.source).page 6).fill = some 0
      ∧ ((deskProjStopping.releaseHolds stillFrame.source).slot 1).phase = some .queued
      ∧ ((deskProjStopping.releaseHolds stillFrame.source).page 5).fill = some 1 := by
  refine ⟨by decide +kernel, fillsAgree_of_tables _ _ (by decide +kernel) (by decide +kernel), ?_,
    by decide +kernel⟩
  unfold State.capturing
  decide +kernel

theorem test_witness_pictures :
    stillFrame.source.kind = .pageStill ∧ stillFrame.source.record = some ⟨5, 3⟩ ∧ stillFrame.source.slot = some 7
      ∧ (desk.slot 7).picture = some .black ∧ stillFrame.source.mirrored = false
      ∧ ({ stillFrame.source with mirrored := true } : Source).mirrored = true
      ∧ (desk.liveSource 5).kind = .livePage ∧ (desk.liveSource 5).record = some ⟨5, 3⟩
      ∧ Source.blank.kind = .blank ∧ Source.blank.mirrored = false := by decide +kernel

/-- A setup with an OUTLINE, two SPOTLIGHT marks and a COVER. -/
def markedSetup : Setup :=
  { Setup.blank with
    marks := (((Setup.blank.marks.set 1 (some ⟨.outline, 0, 0, 100, 100⟩)).set 3
      (some ⟨.spotlight, 10, 10, 200, 200⟩)).set 4 (some ⟨.spotlight, 300, 10, 400, 200⟩)).set 6
      (some ⟨.cover, 0, 0, 50, 50⟩) }

theorem test_marks_drawn :
    markedSetup.draws 256 2048 2048 =
        [.outline ⟨0, 0, 100, 100⟩ 1, .dimOutside [⟨10, 10, 200, 200⟩, ⟨300, 10, 400, 200⟩] 4,
          .cover ⟨0, 0, 50, 50⟩]
      ∧ (Draw.outline ⟨0, 0, 100, 100⟩ 1).at 21 50 = .line ∧ (Draw.outline ⟨0, 0, 100, 100⟩ 1).at 22 50 = .keep
      ∧ (Draw.dimOutside [⟨10, 10, 200, 200⟩] 4).at 9 10 = .dim 4 := by decide +kernel

theorem test_rectangles_in_window :
    (⟨0, 0, 1536, 4095⟩ : Rect).within 1024 2048 2048 = true ∧ (⟨0, 0, 1535, 4095⟩ : Rect).within 1024 2048 2048 = false
      ∧ (⟨2559, 0, 2600, 4095⟩ : Rect).within 1024 2048 2048 = true
      ∧ (⟨2560, 0, 2600, 4095⟩ : Rect).within 1024 2048 2048 = false := by decide

theorem test_witness_marks_in_window :
    (markedSetup.marks.toList.filterMap id).filter
        (fun m => (⟨m.x0, m.y0, m.x1, m.y1⟩ : Rect).within 256 2048 2048)
      = [⟨.outline, 0, 0, 100, 100⟩] ++ ⟨.spotlight, 10, 10, 200, 200⟩
        :: [⟨.spotlight, 300, 10, 400, 200⟩, ⟨.cover, 0, 0, 50, 50⟩] := by decide +kernel

theorem test_witness_holds :
    (desk.page 10).st ≠ .retiring ∧ (desk.page 8).st = .retiring ∧ (desk.page 8).holds = 1
      ∧ (desk.page 8).still = some 4 ∧ (desk.slot 4).st = .ready ∧ (desk.slot 4).holds = 1
      ∧ (desk.slot 6).st = .released ∧ (desk.slot 6).holds = 1 ∧ (desk.slot 7).st ≠ .released
      ∧ (State.page { desk with records := table.set 8 { record8 with still := none } } 8).still = none := by
  decide +kernel

/-- The desk with a RETIRING record 8 that has another still than the slot shown, or none. -/
def deskRetiring (still : Option (Fin 24)) (holds : Nat) : State :=
  { desk with records := table.set 8 { record8 with still := still, holds := holds } }

theorem test_witness_still_frames :
    (desk.page 10).st ≠ .retiring ∧ ((deskRetiring (some 4) 2).page 8).holds = 2
      ∧ ((deskRetiring none 1).page 8).still = none ∧ ((deskRetiring (some 4) 1).page 8).still = some 4
      ∧ ((deskRetiring (some 4) 1).page 8).st = .retiring ∧ (6 : Fin 24) ≠ 4
      ∧ (desk.slot 6).lowered.st = .free ∧ (desk.slot 6).blocksLowered = 1
      ∧ (desk.slot 4).lowered.holds = 0 ∧ (desk.slot 4).lowered.st = .ready := by decide +kernel

theorem test_still_frame_release :
    (deskRetiring (some 4) 1).releaseHolds
        { Source.blank with kind := .pageStill, record := some ⟨8, 9⟩, slot := some 6 }
      = { deskRetiring (some 4) 1 with
          records := table.set 8 (Record.blank 9)
          slots := (slots.set 6 (slots[6].lowered)).set 4 (slots[4].released)
          freeBlocks := desk.freeBlocks + 1
          link := { desk.link with status := desk.link.status ||| Flag.only .retired } } := by decide +kernel

theorem test_witness_live_frame_of_retiring :
    ((deskRetiring (some 4) 1).page 8).st = .retiring ∧ ((deskRetiring (some 4) 1).page 8).holds ≤ 1
      ∧ ((deskRetiring (some 4) 1).page 8).still = some 4 ∧ (desk.slot 6).holds ≤ 1 := by decide +kernel

theorem test_live_frame_of_retiring_released :
    (deskRetiring (some 7) 1).releaseHolds { Source.blank with kind := .livePage, record := some ⟨8, 9⟩ }
      = { deskRetiring (some 7) 1 with
          records := table.set 8 (Record.blank 9)
          slots := slots.set 7 slots[7].freed
          freeBlocks := desk.freeBlocks + 3
          link := { desk.link with status := desk.link.status ||| Flag.only .retired } } := by decide +kernel

/-- STRM in HOLDING with a stall count. -/
def strmHolding (stall : Nat) : State :=
  { desk with ports := { desk.ports with strm := { PortCtx.reset 30 with st := .holding, stall := stall } } }

theorem test_witness_stream :
    (strmHolding 58).ports.strm.stall < 59 ∧ 59 ≤ (strmHolding 59).ports.strm.stall
      ∧ (strmHolding 60).ports.strm.st = .holding ∧ (strmHolding 58).ports.strm.frame = none
      ∧ ({ desk with ports := { desk.ports with strm := { PortCtx.reset 30 with st := .running } } } :
          State).ports.strm.st = .running
      ∧ (desk.port .panel).st = .off := by decide +kernel

/-- The desk with a view that selects by a half. -/
def deskView (half : Half) (fallback : Fallback) : State :=
  { desk with views := desk.views.set .panel { ViewCtx.reset with current := half, fallback := fallback } }

theorem test_witness_sources :
    desk.sin.st = .running ∧ (desk.page 0).still = none
      ∧ ((deskView { Half.reset with sel := .page ⟨5, 3⟩ } .blank).view .panel).current.sel = .page ⟨5, 3⟩
      ∧ ((deskView { Half.reset with sel := .cycle } .blank).view .panel).current.sel = .cycle
      ∧ (desk.port .panel).cycle.pos = (0 : Fin 12).val
      ∧ ((deskView { Half.reset with route := .raw } .blank).view .panel).current.route = .raw
      ∧ ((deskView { Half.reset with route := .mirror } .blank).view .panel).current.route = .mirror
      ∧ deskShowing.ports.proj.frame = some stillFrame := by decide +kernel

theorem test_witness_fallbacks :
    ({ deskView Half.reset .last with sin := Intake.reset } : State).sin.st ≠ .running
      ∧ ((deskView Half.reset .last).view .panel).fallback = .last
      ∧ ((deskView Half.reset (.page ⟨5, 3⟩)).view .panel).fallback = .page ⟨5, 3⟩
      ∧ (desk.page 5).still = some 7 ∧ (desk.page 6).still = none ∧ desk.sin.lastGood.isSome
      ∧ Intake.reset.lastGood = none := by decide +kernel

/-- PANEL on a show cycle whose last entry is this one, after the sensor was lost. -/
def deskCycle (sel : EntrySel) (fallback : Fallback) : State :=
  { deskView { Half.reset with sel := .cycle } fallback with
    sin := { desk.sin with st := .lost }
    ports := desk.ports.set .panel { desk.ports.panel with
      cycle := ⟨(Vector.replicate 12 .blank).set 11 ⟨sel, 9⟩, 12, 11, 1⟩ } }

theorem test_witness_wants_live :
    (deskView { Half.reset with route := .raw } .last).wantsLive .panel none none
      ∧ (deskView Half.reset .last).wantsLive .panel (some ⟨0, 0⟩) none
      ∧ (deskView { Half.reset with sel := .page ⟨6, 1⟩ } .last).wantsLive .panel (some ⟨6, 1⟩) none
      ∧ (deskCycle .live .last).wantsLive .panel (some ⟨0, 0⟩) (some 11)
      ∧ (deskCycle (.page ⟨6, 1⟩) .last).wantsLive .panel (some ⟨6, 1⟩) (some 11) :=
  ⟨.inl ⟨rfl, rfl, rfl⟩, .inr ⟨rfl, _, rfl, .inl ⟨rfl, .inl ⟨rfl, rfl⟩⟩⟩,
    .inr ⟨rfl, _, rfl, .inl ⟨rfl, .inr ⟨⟨6, 1⟩, rfl, rfl, rfl⟩⟩⟩,
    .inr ⟨rfl, _, rfl, .inr ⟨11, rfl, rfl, rfl, .inl ⟨rfl, rfl⟩⟩⟩,
    .inr ⟨rfl, _, rfl, .inr ⟨11, rfl, rfl, rfl, .inr ⟨⟨6, 1⟩, rfl, rfl, rfl⟩⟩⟩⟩

theorem test_cycle_entry_under_fallback :
    (deskCycle (.page ⟨6, 1⟩) .last).resolve .panel = ⟨.livePage, some ⟨6, 1⟩, none, .last, some 11, false⟩
      ∧ (deskCycle .live .blank).resolve .panel = ⟨.blank, none, none, .blank, some 11, false⟩
      ∧ (deskCycle (.page ⟨5, 3⟩) .last).resolve .panel
        = ⟨.pageStill, some ⟨5, 3⟩, some 7, .none, some 11, false⟩ := by decide +kernel

theorem test_witness_frames_without_live :
    (desk.page 5).still = some 7 ∧ ((deskCycle (.page ⟨5, 3⟩) .last).view .panel).current.sel = .cycle
      ∧ ((deskCycle (.page ⟨5, 3⟩) .last).port .panel).cycle.pos = (11 : Fin 12).val
      ∧ ((deskCycle (.page ⟨5, 3⟩) .last).port .panel).cycle.entries[11].sel = .page ⟨5, 3⟩
      ∧ ((deskCycle .blank .last).port .panel).cycle.entries[11].sel = .blank := by decide +kernel

theorem test_witness_cycle_handles :
    [(⟨.val .live, none, 1⟩ : EntryArg), ⟨.val .page, some ⟨6, 2⟩, 1⟩][1]? = some ⟨.val .page, some ⟨6, 2⟩, 1⟩
      ∧ desk.handleRefusal (some ⟨6, 2⟩) = some .stale ∧ desk.handleRefusal none = none := by decide +kernel

theorem test_witness_cycles :
    (1 : ViewSet) ≠ 0 ∧ (∀ i : Fin 64, desk.cycleNaming 1 (fun _ => true) i ≤ (desk.page i).cycRefs)
      ∧ ([(⟨.page ⟨5, 3⟩, 4095⟩ : CycleEntry), ⟨.live, 1⟩].map fun e => e.dwell) = [4095, 1]
      ∧ (desk.page 5).gen = 3 ∧ (11 + 1) % 12 = (0 : Fin 12).val ∧ (desk.port .proj).cycle.dwell = 1 := by
  decide +kernel

theorem test_cycle_write_refusals :
    exec (.cycleWrite 1 ⟨0, 1, [⟨.other, some ⟨5, 3⟩, 1⟩]⟩) desk = answers desk .argument .empty
      ∧ exec (.cycleWrite 1 ⟨0, 1, [⟨.other, none, 1⟩]⟩) desk = answers desk .range .empty
      ∧ exec (.cycleWrite 0 ⟨11, 1, [⟨.val .page, some ⟨5, 3⟩, 4095⟩]⟩) desk = answers desk .target .empty
      ∧ exec (.cycleWrite 8 ⟨11, 1, [⟨.val .live, none, 1⟩]⟩) desk = answers desk .range .empty := by
  refine ⟨rfl, rfl, rfl, rfl⟩

theorem test_witness_due :
    (desk.view .proj).applyMode = .atFrame
      ∧ (deskView Half.reset .blank).view .panel = ViewCtx.reset
      ∧ ({ ViewCtx.reset with applyMode := .atTake } : ViewCtx).armed = false
      ∧ ({ Half.reset with sel := .cycle } : Half).sel = .cycle := by decide +kernel

/-! ### Those of the statements on the lesson flash -/

theorem test_witness_commit :
    (deskIdle.lesson 4).st = .opened ∧ deskIdle.op = none ∧ (deskIdle.lesson 4).lock.rank ≤ Level.owner.rank
      ∧ ∀ i ∈ (deskIdle.lesson 4).order, (deskIdle.page i).fill = none := by decide +kernel

theorem test_witness_commit_refusals :
    desk.op ≠ none ∧ (desk.lesson 2).st = .opened ∧ (desk.lesson 0).st = .absent
      ∧ Level.owner.rank < ({ deskLocked with op := none } : State).lessons[2].lock.rank
      ∧ (∃ i ∈ [(7 : Fin 64)], (desk.page i).fill ≠ none) := by decide +kernel

/-- The header of a lesson of two pages, the first with a still of 12 blocks. -/
def header : HeaderVals where
  pages := 2
  stills := 1
  blocks := 12
  lock := .owner
  label := some [0x41, 0x7E]
  dir := some ⟨12, .composed, 15⟩ :: List.replicate 31 none

/-- The desk with that header in lesson 6's descriptor and no operation in flight. -/
def deskStored : State := { deskIdle with descs := deskIdle.descs.set 5 ⟨true, true, some header⟩ }

theorem test_witness_load :
    (deskStored.lesson 5).st = .absent ∧ (deskStored.lesson 5).stored = true ∧ deskStored.op = none
      ∧ deskStored.descs[5] = ⟨true, true, some header⟩ ∧ header.lock.rank ≤ Level.owner.rank
      ∧ header.pages ≤ deskStored.freeRecords.length ∧ header.stills ≤ deskStored.freeSlots.length
      ∧ header.blocks ≤ deskStored.freeBlocks := by decide +kernel

theorem test_witness_header : header.storable := by
  refine ⟨⟨by decide, rfl, ?_, by decide, by decide⟩, ?_, by decide, ?_⟩
  · intro k hk
    match k, hk with
    | k + 1, _ =>
      simp only [header, List.getD_eq_getElem?_getD, List.getElem?_cons_succ, List.getElem?_replicate]
      split <;> rfl
  · intro t ht
    obtain rfl : [0x41, 0x7E] = t := Option.some.inj ht
    unfold isLabel
    decide
  · intro e he
    simp only [header, List.mem_cons, List.mem_replicate] at he
    rcases he with he | he
    · cases he
      decide
    · exact absurd he.2 (by simp)

theorem test_witness_load_refusals :
    Level.presenter.rank < header.lock.rank ∧ (desk.lesson 2).st ≠ .absent
      ∧ deskFull.freeRecords.length < header.pages
      ∧ ({ deskStored with freeBlocks := 11 } : State).freeBlocks < header.blocks
      ∧ deskStored.descs[4].sound = false := by decide +kernel

theorem test_witness_abandon_and_erase :
    (desk.lesson 4).st = .committing ∧ (desk.lesson 4).lock.rank ≤ Level.presenter.rank
      ∧ (deskStored.lesson 5).lock.rank ≤ Level.owner.rank ∧ deskStored.descs[5].sound = true
      ∧ (deskLoading.lesson 7).st = .loading := by decide +kernel

/-- The desk in a later phase of its commit. -/
def deskCommitting (p : CommitPhase) : State := { desk with op := some (.commit 4 p) }

/-- The same with record 10 holding slot 7's still. -/
def deskCommittingStill : State :=
  { deskCommitting (.page 0) with records := table.set 10 { record10 with still := some 7 } }

theorem test_witness_commit_phases :
    (desk.lesson 4).order.length ≤ 32 ∧ (deskCommitting (.page 0)).op = some (.commit 4 (.page 0))
      ∧ (desk.lesson 4).order[0]? = some 10 ∧ (desk.page 10).still = none
      ∧ (deskCommittingStill.page 10).still = some 7 ∧ (deskCommittingStill.slot 7).picture = some .black
      ∧ deskCommittingStill.packedBefore 4 0 + (deskCommittingStill.slot 7).blocks ≤ 64
      ∧ (deskCommitting .marker).op = some (.commit 4 .marker) := by decide +kernel

theorem test_witness_clear : ({ desk with op := some (.clear 1) } : State).op = some (.clear 1) := rfl

/-- An area with a header and its first page written in it. -/
def writtenArea : Area :=
  ((Area.unwritten.writeHeader 7 header).writeMarker.writePicture 0 12 .black).writePage 0 Setup.blank true 0

/-- The load of lesson 8 in its first page phase, from that area. -/
def deskLoadingPage : State :=
  { deskLoading with
    areas := deskLoading.areas.set 7 writtenArea
    descs := deskLoading.descs.set 7 ⟨true, true, some header⟩
    op := some (.load 7 (.page 0)) }

theorem test_witness_load_pages :
    deskLoadingPage.loadings[0]? = some 9 ∧ deskLoadingPage.areas[7].answers = true
      ∧ (deskLoadingPage.page 9).fill = some 5 ∧ deskLoadingPage.descs[7].header = some header
      ∧ header.dir[0]? = some (some ⟨12, .composed, 15⟩) := by decide +kernel

theorem test_witness_load_page_read :
    deskLoadingPage.areas[7].read 128 130 = some (pageBytes Setup.blank true 0) := by
  have ha : deskLoadingPage.areas[7] = writtenArea := by simp [deskLoadingPage]
  have hl : (pageBytes Setup.blank true 0).length = 130 :=
    pageBytes_length (x := Setup.blank) nofun true 0
  have h := ((Area.unwritten.writeHeader 7 header).writeMarker.writePicture 0 12 .black).read_put 128
    (pageBytes Setup.blank true 0) (by rw [hl]; decide)
  rw [hl] at h
  rw [ha]
  exact h

/-- The last byte below the picture region stands at 8191, and nothing is put from 8192 on (R155). -/
theorem test_area_layout :
    (writtenArea.put 8191 [1, 2]).contentAt 8191 = .byte (some 1)
      ∧ writtenArea.contentAt 8191 = .byte none
      ∧ (writtenArea.put 8191 [1, 2]).contentAt 8192 = .picture writtenArea.frames
      ∧ (writtenArea.put 8191 [1, 2]).read 8191 1 = some [1]
      ∧ (writtenArea.put 8191 [1, 2]).read 8191 2 = none := by decide +kernel

/-- The last page image place and the first that would reach the picture region. -/
theorem test_witness_page_places :
    128 + 130 * 31 + 130 ≤ 8192 ∧ 128 + 130 * 61 + 130 ≤ 8192 ∧ 8192 < 128 + 130 * 62 + 130 := by decide

theorem test_witness_load_page_fits :
    pageSound (pageBytes Setup.blank true 0) = true ∧ flagged (pageBytes Setup.blank true 0) 5 = true
      ∧ byteAt (pageBytes Setup.blank true 0) 124 = firstOf header.dir 0 := by
  rw [pageSound, pageBytes_crcHolds (x := Setup.blank) nofun]
  decide +kernel

theorem test_witness_load_frames :
    ∀ n : Fin 12, deskLoadingPage.areas[7].frames.toList.getD (firstOf header.dir 0 + n.val) none
      = some ⟨.black, n.val, 12⟩ := by decide +kernel

theorem test_witness_header_sound :
    headerSound 7 (headerCore 7 header ++ crcBytes (headerCore 7 header)) = true
      ∧ (headerCore 7 header ++ crcBytes (headerCore 7 header)).length = 98 := by
  have hl : ∀ t, header.label = some t → t.length ≤ 24 := fun t ht => by cases ht; decide
  have hc := crcHolds_append (headerCore_length 7 hl rfl) []
  rw [List.append_nil] at hc
  rw [headerSound, hc]
  decide +kernel

theorem test_witness_load_header :
    (Area.unwritten.writeHeader 7 header).writeMarker.describe 7 = ⟨true, true, some header⟩
      ∧ Area.unwritten.describe 7 = .invalid := by
  have hl : ∀ t, header.label = some t → t.length ≤ 24 := fun t ht => by cases ht; decide
  have hv : headerVals (headerCore 7 header ++ crcBytes (headerCore 7 header)) = header := by decide +kernel
  exact ⟨by rw [Area.describe_writeHeader rfl 7 hl rfl test_witness_header_sound.1, hv], rfl⟩

theorem test_witness_storable : Setup.blank.storable ∧ record5.setup.storable := by
  unfold Setup.storable
  refine ⟨⟨nofun, nofun, nofun, ?_⟩, ⟨nofun, nofun, ?_, ?_⟩⟩
  · intro i m h
    simp [Setup.blank] at h
  · intro p h
    cases h
    decide
  · intro i m h
    simp [record5, Setup.blank] at h

/-- Bytes of a page image at their offsets: still flag, groups, inherited overrides, corners, marks, first block. -/
theorem test_page_bytes :
    let x : Setup := { Setup.blank with
      groups := 0x81, corners := some ⟨⟨0x123, 0x45⟩, ⟨4095, 1⟩, ⟨2, 3071⟩, ⟨3, 4⟩⟩
      marks := Setup.blank.marks.set 7 (some ⟨.outline, 0x123, 0x456, 0x789, 0xABC⟩) }
    [0, 1, 2, 4, 5, 10, 11, 36, 37, 38, 39, 40, 41, 117, 118, 119, 120, 121, 122, 123, 124].map
        (byteAt (pageBytes x true 63)) =
      [0x21, 0, 0x81, 1, 0xFF, 0xFF, 0, 0x01, 0x23, 0, 0x45, 0x0F, 0xFF, 3, 0x12, 0x34, 0x56, 0x78, 0x9A, 0xBC,
        63] := by decide +kernel

/-- The check of one byte by the polynomial, bit by bit. -/
theorem test_check_of_a_byte :
    crc16 [0x31] = 0xC782 ∧ crc16 [] = 0xFFFF := by decide +kernel

/-! ### Those of the statements on the link, and of the invariants -/

/-- A telegram: DEV.IDENT. -/
def ident : Telegram := ⟨0x44, 0x49, 0, 0, 0, 0, []⟩

theorem test_witness_telegram :
    ident.payload.length ≤ 60 ∧ ident.tag0 ≠ 0xF0 ∧ desk.link.intake.length < 4 ∧ desk.link.assembly = none
      ∧ [true, false].length < 8 := by decide +kernel

theorem test_part_byte_is_disregarded :
    wholeBytes (bitsOf [0xF0, 0x01] ++ [true, true, true]) = [0xF0, 0x01] ∧ wholeBytes [true, false] = [] := by
  decide

/-- Two whole bytes and the bits of a part byte after a fetch marker count as two bytes of a fetch; a reply waits. -/
theorem test_witness_fetch_marker :
    [true, true, true].length < 8
      ∧ (8 * ([1, 2] : List Byte).length + [true, true, true].length) / 8 = 2
      ∧ ({ Link.reset with replies := [⟨0x44, 0x49, ⟨.level, .empty⟩⟩] } : Link).replies ≠ [] := by decide

theorem test_witness_full_queue :
    4 ≤ ({ Link.reset with intake := List.replicate 4 ident } : Link).intake.length
      ∧ ({ Link.reset with intake := List.replicate 4 ident, assembly := some ident } : Link).assembly.isSome := by
  decide +kernel

theorem test_witness_unframed :
    ([1, 2, 3, 4, 5, 6] : List Byte).length < 7 ∧ ([1] : List Byte).head? ≠ some 0xF0
      ∧ 60 < (61 : Byte).toNat ∧ ([1, 2, 3, 4, 5, 6, 0, 0] : List Byte).length < 9 + (0 : Byte).toNat := by decide

theorem test_witness_bad_check :
    (([1, 2, 3, 4, 5, 6, 0, 0, 0] : List Byte).drop 7).take 2 ≠
      [(crc16 [1, 2, 3, 4, 5, 6, 0]).extractLsb' 8 8, (crc16 [1, 2, 3, 4, 5, 6, 0]).extractLsb' 0 8] := by
  decide +kernel

theorem test_witness_dispatch :
    desk.link.intake = [ident] ∧ desk.link.replies.length < 4 ∧ ('D', 'I', .devIdent, [0]) ∈ commandRows
      ∧ ident.tag0.toNat = 'D'.toNat ∧ ident.tag1.toNat = 'I'.toNat ∧ ident.kind.toNat ∈ [0]
      ∧ (∀ e ∈ commandRows, ¬ ((0x5A : Byte).toNat = e.1.toNat ∧ (0x5A : Byte).toNat = e.2.1.toNat)) ∧ ident.control.toNat % 4 = Level.presenter.rank
      ∧ Level.presenter.rank ≤ desk.link.ceiling.rank ∧ desk.link.ceiling.rank < (2 : Byte).toNat % 4
      ∧ (5 : Byte).toNat ∉ [0] ∧ (6 : Byte).toNat ∉ [0]
      ∧ Command.devIdent.lengthOk { ident with payload := [0] } = false := by decide +kernel

/-- The rows of the statement name the decoder's tags, and the target kinds each command accepts. -/
theorem test_command_rows :
    commandRows.map (fun e => (e.1, e.2.1, e.2.2.1)) = tagsOfPages ++ tagsOfOthers
      ∧ ∀ e ∈ commandRows, ∀ k : Fin 8,
        (k.val ∈ e.2.2.2 ↔ ∃ t ∈ targetKind (BitVec.ofNat 8 k.val), t ∈ e.2.2.1.targets) := by decide +kernel

/-- A telegram with a payload: PAGE.LOCK of record 5, to OWNER. -/
def lockFive : Telegram := ⟨0x50, 0x4C, 1, 1, 5, 3, [1]⟩

theorem test_witness_dispatch_payload :
    lockFive.payload ≠ [] ∧ lockFive.control.toNat % 4 = Level.owner.rank ∧ lockFive.tag0.toNat = 'P'.toNat
      ∧ lockFive.tag1.toNat = 'L'.toNat ∧ lockFive.kind.toNat = 1 ∧ Command.pageLock.lengthOk lockFive = true
      ∧ Command.pageLock.lengthOk { lockFive with payload := [1, 1] } = false := by decide +kernel

theorem test_witness_flag_bits : 2 ^ 19 ≤ (0x080000 : BitVec 24).toNat ∧ (0x07FFFF : BitVec 24).toNat < 2 ^ 19 := by
  decide

theorem test_witness_replies :
    ({ Link.reset with replies := [⟨0x44, 0x49, ⟨.ok, .empty⟩⟩] } : Link).replies
      = [⟨0x44, 0x49, ⟨.ok, .empty⟩⟩] := rfl

theorem test_witness_refused : exec (.pageRead ⟨64, 0⟩) desk = answers desk .range .empty
    ∧ isTelegramRow (.pageRead ⟨64, 0⟩) = true := by
  constructor <;> rfl

theorem test_witness_live_record : desk.liveRecordKept := by
  unfold State.liveRecordKept Record.isLive
  refine ⟨by decide +kernel, by decide +kernel, ?_⟩
  intro k h hk
  have free : ∀ k : Fin 24, (desk.slot k).record.any (fun h => h.idx == 0) = false := by decide +kernel
  simpa [hk] using free k

theorem test_witness_link_bounded : desk.link.bounded := by
  unfold Link.bounded
  decide +kernel

theorem test_witness_flash_canonical :
    ({ desk with areas := .replicate 8 { Area.unwritten with cells := [(0, 0x5A), (4, 1)] } } :
      State).flashCanonical := by
  unfold State.flashCanonical
  decide +kernel

theorem test_witness_lens_consistent : busyBus.consistent ∧ bridgedBus.consistent :=
  ⟨⟨⟨_, _, rfl, rfl, rfl⟩, fun _ h => by cases h; rfl⟩, ⟨_, _, rfl, rfl, rfl, rfl⟩⟩

/-- A part with lesson 3 OPEN and active, record 5 in it with still 7, shown by PROJ's frame in flight and named by
PROJ's current selection and by a show-cycle entry; record 8 RETIRING, held by STRM's frame on the RELEASED slot 6;
and record 7 loose, with a fill in slot 3. -/
def agreed : State :=
  { State.reset with
    records := (((State.reset.records.set 5
      { Record.blank 3 with st := .opened, lesson := some 2, still := some 7, selRefs := 1, cycRefs := 1,
                            holds := 1 }).set 7 { Record.blank 2 with st := .opened, fill := some 3 }).set 8
      { Record.blank 9 with st := .retiring, holds := 1 })
    lessons := State.reset.lessons.set 2
      { Lesson.absent false false with st := .opened, order := [5], cursor := some 0 }
    active := some 2
    slots := ((State.reset.slots.set 7
      { Slot.reset with st := .ready, blocks := 4, holds := 1, record := some ⟨5, 3⟩, picture := some .black }).set 3
      { Slot.reset with st := .filling, blocks := 2, record := some ⟨7, 2⟩, source := some .page,
                        phase := some .queued }).set 6
      { Slot.reset with st := .released, blocks := 1, holds := 1, picture := some .black }
    freeBlocks := 57
    views := { State.reset.views with
      proj := { ViewCtx.reset with current := { Half.reset with sel := .page ⟨5, 3⟩ } } }
    ports := { State.reset.ports with
      proj := { PortCtx.reset 60 with
        st := .running
        frame := some stillFrame
        cycle := ⟨(Vector.replicate 12 .blank).set 11 ⟨.page ⟨5, 3⟩, 9⟩, 1, 0, 1⟩ }
      strm := { PortCtx.reset 30 with
        st := .running
        frame := some ⟨⟨.pageStill, some ⟨8, 8⟩, some 6, .none, none, true⟩, .black⟩ } } }

/-- The handles a view and its port's cycle name. -/
def namedBy (s : State) (v : ViewId) : List Handle :=
  ([(s.view v).staged.sel, (s.view v).current.sel].filterMap fun x =>
      match x with | .page h => some h | _ => none)
    ++ (match (s.view v).fallback with | .page h => [h] | _ => [])
    ++ (List.finRange 12).filterMap fun q =>
      match (s.port v).cycle.entries[q].sel with | .page h => some h | _ => none

theorem test_witness_tables_agree : agreed.tablesAgree := by
  refine ⟨⟨by decide +kernel, ?_⟩, ⟨by decide +kernel, ?_⟩, ?_, ?_, by decide +kernel⟩
  · intro v h hh
    have key : ∀ x ∈ namedBy agreed v, agreed.names x := by
      unfold State.names
      cases v <;> decide +kernel
    refine key h ?_
    simp only [namedBy, List.mem_append, List.mem_filterMap, List.mem_cons]
    rcases hh with hh | hh | hh | ⟨q, hh⟩
    · exact .inl (.inl ⟨_, .inl rfl, by rw [hh]⟩)
    · exact .inl (.inl ⟨_, .inr (.inl rfl), by rw [hh]⟩)
    · exact .inl (.inr (by rw [hh]; exact List.mem_singleton.mpr rfl))
    · exact .inr ⟨q, List.mem_finRange q, by rw [hh]⟩
  · have rest : ∀ l : Fin 8, (agreed.lesson l).order.Nodup
        ∧ (∀ i : Fin 64, i ∈ (agreed.lesson l).order ↔ (agreed.page i).lesson = some l)
        ∧ (∀ i ∈ (agreed.lesson l).order, i ≠ 0 ∧ (agreed.page i).st = .opened)
        ∧ (agreed.lesson l).cursor.all (fun c => decide (c < (agreed.lesson l).order.length)) = true
        ∧ ((agreed.lesson l).st = .absent ∨ (agreed.lesson l).st = .loading →
          (agreed.lesson l).order = []) := by decide +kernel
    intro l
    obtain ⟨h1, h2, h3, h4, h5⟩ := rest l
    exact ⟨h1, h2, h3, fun c hc => by simpa [hc] using h4, h5⟩
  · have idle : ∀ l : Fin 8, (agreed.lesson l).st ≠ .committing ∧ (agreed.lesson l).st ≠ .loading := by
      decide +kernel
    have none : agreed.op = none := rfl
    intro l
    exact ⟨⟨fun h => absurd h (idle l).1, fun ⟨p, h⟩ => by rw [none] at h; cases h⟩,
      ⟨fun h => absurd h (idle l).2, fun ⟨p, h⟩ => by rw [none] at h; cases h⟩⟩
  · have quiet : ∀ i : Fin 64, (agreed.page i).st ≠ .loading := by decide +kernel
    exact fun i h => absurd h (quiet i)

theorem test_witness_store_agrees : agreed.storeAgrees := by
  refine ⟨test_witness_tables_agree, ?_, ?_⟩
  · have holds : ∀ i : Fin 64, (agreed.page i).holds = agreed.framesOfRecord i := by decide +kernel
    refine fun i => ⟨holds i, ?_⟩
    revert i
    unfold State.recordAgrees
    refine fun i => ⟨?_, ?_, ?_⟩
    · revert i
      decide +kernel
    · revert i
      decide +kernel
    · have all : ∀ i : Fin 64, (match (agreed.page i).st with
          | .free => (agreed.page i).still = none ∧ (agreed.page i).fill = none ∧ (agreed.page i).holds = 0
          | .loading => (agreed.page i).still = none ∧ (agreed.page i).holds = 0
          | .opened => True
          | .retiring => (agreed.page i).fill = none ∧ 0 < (agreed.page i).holds : Prop) := by
        intro i
        have h : ((agreed.page i).st = .free ∧ (agreed.page i).still = none ∧ (agreed.page i).fill = none
              ∧ (agreed.page i).holds = 0)
            ∨ (agreed.page i).st = .opened
            ∨ ((agreed.page i).st = .retiring ∧ (agreed.page i).fill = none ∧ 0 < (agreed.page i).holds) := by
          revert i
          decide +kernel
        rcases h with h | h | h
        · rw [h.1]; exact h.2
        · rw [h]; trivial
        · rw [h.1]; exact h.2
      exact all i
  · have holds : ∀ k : Fin 24, (agreed.slot k).holds = agreed.framesOfSlot k := by decide +kernel
    refine fun k => ⟨holds k, ?_⟩
    have h : k = 7 ∨ k = 3 ∨ k = 6 ∨ ((agreed.slot k).st = .free ∧ (agreed.slot k).blocks = 0
        ∧ (agreed.slot k).holds = 0 ∧ (agreed.slot k).record = none) := by
      revert k
      decide +kernel
    unfold State.slotAgrees
    rcases h with rfl | rfl | rfl | h
    · exact ⟨⟨5, 3⟩, rfl, rfl, rfl⟩
    · exact ⟨rfl, ⟨7, 2⟩, rfl, rfl, rfl, rfl, by decide +kernel⟩
    · exact ⟨rfl, by decide +kernel⟩
    · rw [h.1]; exact h.2

end Sys2Proof.Tests
end

section
/-! SUPPORT. The cursor of an order under insertions, removals and moves (R33). -/

namespace Sys2Proof.Machine.LessonLaws

/-- The place of an entry after an insertion at p. -/
def placeAfterInsert (c p : Nat) : Nat := if p ≤ c then c + 1 else c

/-- The place of an entry after the removal of another one, at p. -/
def placeAfterRemove (c p : Nat) : Nat := if p < c then c - 1 else c

theorem cursorInsert_some (c p : Nat) : cursorInsert (some c) p = some (placeAfterInsert c p) := rfl

theorem cursorRemove_other {c p : Nat} (n : Nat) (h : p ≠ c) :
    cursorRemove (some c) p n = some (placeAfterRemove c p) := by
  rcases Nat.lt_or_gt_of_ne h with hlt | hgt
  · simp [cursorRemove, placeAfterRemove, hlt]
  · have hge : ¬ p < c := Nat.not_lt.mpr hgt.le
    simp [cursorRemove, placeAfterRemove, hgt, hge]

theorem cursorRemove_own (c n : Nat) :
    cursorRemove (some c) c n = if c < n then some c else if 0 < n then some (n - 1) else none := by
  simp [cursorRemove]

theorem cursorMove_own (a b : Nat) : cursorMove (some a) a b = some b := by simp [cursorMove]

/-- A move is a removal followed by an insertion, for the cursor of another entry. -/
theorem cursorMove_other {c a : Nat} (b : Nat) (h : a ≠ c) :
    cursorMove (some c) a b = some (placeAfterInsert (placeAfterRemove c a) b) := by
  simp only [cursorMove, placeAfterInsert, placeAfterRemove, Option.map_some, Option.some.injEq]
  split_ifs <;> omega

variable {α : Type}

theorem getElem?_insertIdx_placeAfterInsert (order : List α) (c p : Nat) (x : α) :
    (order.insertIdx p x)[placeAfterInsert c p]? = order[c]? := by
  unfold placeAfterInsert
  split
  next h => exact List.getElem?_insertIdx_of_gt (Nat.lt_succ_of_le h)
  next h => exact List.getElem?_insertIdx_of_lt (Nat.lt_of_not_le h)

theorem getElem?_eraseIdx_placeAfterRemove (order : List α) {c p : Nat} (h : p ≠ c) :
    (order.eraseIdx p)[placeAfterRemove c p]? = order[c]? := by
  unfold placeAfterRemove
  split
  next hlt => rw [List.getElem?_eraseIdx_of_ge (by omega), Nat.sub_add_cancel (by omega)]
  next hge => exact List.getElem?_eraseIdx_of_lt (by omega)

/-- The entry that moves from a stands at b. -/
theorem getElem?_move_own (order : List α) {a b : Nat} {x : α} (ha : order[a]? = some x)
    (hb : b < order.length) : ((order.eraseIdx a).insertIdx b x)[b]? = order[a]? := by
  obtain ⟨hlt, -⟩ := List.getElem?_eq_some_iff.mp ha
  have hle : b ≤ (order.eraseIdx a).length := by rw [List.length_eraseIdx_of_lt hlt]; omega
  rw [List.getElem?_insertIdx_self, if_pos hle, ha]

/-- The cursor's entry after a move is the one before it. -/
theorem cursorMove_follows (order : List α) (c : Nat) {a b : Nat} {x : α} (ha : order[a]? = some x)
    (hb : b < order.length) :
    ∃ c', cursorMove (some c) a b = some c' ∧ ((order.eraseIdx a).insertIdx b x)[c']? = order[c]? := by
  by_cases hac : a = c
  · subst hac
    exact ⟨b, cursorMove_own a b, getElem?_move_own order ha hb⟩
  · refine ⟨_, cursorMove_other b hac, ?_⟩
    rw [getElem?_insertIdx_placeAfterInsert, getElem?_eraseIdx_placeAfterRemove order hac]

/-- Settles O15: an insertion and a removal each shift the place of another entry as they shift the cursor, and a
move is one after the other. -/
theorem cursorFollowsItsPage : Obligations.CursorFollowsItsPage := by
  intro order c hc
  refine ⟨?insert, ?move, ?removeOther, ?removeOwn, ?absent⟩
  case insert =>
    exact fun p i _ => ⟨_, cursorInsert_some c p, getElem?_insertIdx_placeAfterInsert order c p i⟩
  case move => exact fun a b i ha hb => cursorMove_follows order c ha hb
  case removeOther =>
    exact fun p _ h => ⟨_, cursorRemove_other _ h, getElem?_eraseIdx_placeAfterRemove order h⟩
  case removeOwn =>
    rw [cursorRemove_own]
    simp only [Nat.lt_sub_iff_add_lt, Nat.zero_add, Nat.sub_sub]
  case absent => exact fun p a b n => ⟨rfl, rfl, rfl⟩

end Sys2Proof.Machine.LessonLaws
end

section
/-! SUPPORT. Lesson numbers, levels, labels and lists of checks as the lesson commands use them (R34 to R46). -/

namespace Sys2Proof.Machine.LessonLaws

/-! ### Operands -/

@[simp] theorem lessonIdx_succ (l : Fin 8) : lessonIdx (l.val + 1) = l := by simp [lessonIdx]

@[simp] theorem badLesson_succ (l : Fin 8) : badLesson (l.val + 1) = false := by
  simp only [badLesson, Bool.or_eq_false_iff, decide_eq_false_iff_not]
  omega

theorem badLesson_of_outside {n : Nat} (h : n < 1 ∨ 8 < n) : badLesson n = true := by simpa [badLesson] using h

@[simp] theorem passes_eq (lvl lock : Level) : lvl.passes lock = decide (lock.rank ≤ lvl.rank) := rfl

@[simp] theorem ofNum_rank (k : Level) : Level.ofNum k.rank = k := by cases k <;> rfl

theorem rank_le_two (k : Level) : k.rank ≤ 2 := by cases k <;> decide

/-- The greater of two levels passes exactly when both do. -/
theorem rank_max_le_iff (a b c : Level) : (a.max b).rank ≤ c.rank ↔ a.rank ≤ c.rank ∧ b.rank ≤ c.rank := by
  unfold Level.max
  split <;> omega

theorem badLock_rank (lock : Option Level) : badLock (lock.map Level.rank) = false := by
  cases lock with
  | none => rfl
  | some k => simp [badLock, outside, rank_le_two k]

theorem badLock_of_gt {k : Nat} (h : 2 < k) : badLock (some k) = true := by simp [badLock, outside, h]

theorem badLabel_of_isLabel {t : List Byte} (h : isLabel t) : badLabel t = false := by
  obtain ⟨hpos, hlen, hchars⟩ := h
  have hne : t ≠ [] := List.ne_nil_of_length_pos hpos
  simpa [badLabel, hne, hlen] using hchars

theorem badLabel_of_unprintable {t : List Byte} (h : ∃ c ∈ t, c.toNat < 0x20 ∨ 0x7E < c.toNat) :
    badLabel t = true := by
  simp only [badLabel, Bool.or_eq_true, List.any_eq_true, decide_eq_true_eq]
  exact .inr h

/-! ### Checks and what a command answers -/

theorem firstFailure_cons (b : Bool) (c : ResultCode) (rest : List Check) :
    firstFailure ((b, c) :: rest) = if b then some c else firstFailure rest := by cases b <;> rfl

/-- A guarded command answers the code of its first failing check and changes nothing, or is carried out (R8). -/
theorem conclude_guarded (s : State) (checks : List Check) (act : Result) :
    conclude (guarded s checks act) =
      (firstFailure checks).elim (conclude act) fun c => answers s c .empty := by
  unfold guarded
  cases firstFailure checks <;> rfl

theorem conclude_doneWith (s : State) (b : ReplyBody) : conclude (doneWith s b) = answers s .ok b := rfl

theorem conclude_refuse (s : State) (c : ResultCode) : conclude (refuse s c) = answers s c .empty := rfl

/-- The checks of a command on an OPEN lesson are those of R37, at the level the command needs. -/
theorem firstFailure_lessonChecks (s : State) (lvl need : Level) (l : Fin 8) :
    firstFailure (s.lessonChecks lvl need (l.val + 1)) =
      if (s.lesson l).st = .committing then some .busy
      else if (s.lesson l).st ≠ .opened then some .state
      else if lvl.rank < need.rank then some .locked
      else none := by
  simp [State.lessonChecks, firstFailure_cons]

theorem firstFailure_lessonChecks_number (s : State) (lvl need : Level) {n : Nat} (h : n < 1 ∨ 8 < n) :
    firstFailure (s.lessonChecks lvl need n) = some .range := by
  simp [State.lessonChecks, badLesson_of_outside h]

end Sys2Proof.Machine.LessonLaws
end

section
/-! SUPPORT. LESSON.ACTIVATE, LESSON.OPEN and LESSON.SET (R34 to R36). -/

namespace Sys2Proof.Machine.LessonLaws

/-! ### LESSON.ACTIVATE (R34) -/

theorem exec_lessonActivate_none (s : State) :
    exec (.lessonActivate none) s = answers { s with active := none } .ok .empty := rfl

theorem exec_lessonActivate_some (n : Nat) (s : State) :
    exec (.lessonActivate (some n)) s =
      (firstFailure [(badLesson n, .range), (!(s.lesson (lessonIdx n)).present, .state)]).elim
        (answers { s with active := some (lessonIdx n) } .ok .empty) fun c => answers s c .empty :=
  conclude_guarded s _ _

theorem lessonActivateSetsActive : Says.LessonActivateSetsActive := by
  intro s
  refine ⟨exec_lessonActivate_none s, ?present, ?other, ?number⟩
  case present =>
    intro l h
    have hp : (s.lesson l).present = true := by simpa [Lesson.present] using h
    simp [exec_lessonActivate_some, firstFailure_cons, hp]
  case other =>
    intro l h
    have hp : (s.lesson l).present = false := by rcases h with h | h <;> simp [Lesson.present, h]
    simp [exec_lessonActivate_some, firstFailure_cons, hp]
  case number =>
    intro n h
    have hn : n < 1 ∨ 8 < n := by omega
    simp [exec_lessonActivate_some, badLesson_of_outside hn]

/-! ### LESSON.OPEN (R35) -/

theorem exec_lessonOpen (lvl : Level) (n : Nat) (form : OpenForm) (s : State) :
    exec (.lessonOpen lvl n form) s =
      (firstFailure
        [(form.bad, .range), (badLesson n, .range),
          ((s.lesson (lessonIdx n)).st == .loading || (s.lesson (lessonIdx n)).st == .committing, .busy),
          ((s.lesson (lessonIdx n)).st == .opened, .state), ((s.lesson (lessonIdx n)).stored, .state),
          (!lvl.passes form.level, .locked)]).elim
        (answers (s.modLesson (lessonIdx n) fun x => x.open form) .ok .empty) fun c => answers s c .empty :=
  conclude_guarded s _ _

theorem OpenForm_level_rank (label : Option (List Byte)) (lock : Option Level) :
    OpenForm.level ⟨label, lock.map Level.rank⟩ = lock.getD .presenter := by
  cases lock with
  | none => rfl
  | some k => exact ofNum_rank k

theorem OpenForm_good {label : Option (List Byte)} (lock : Option Level)
    (h : ∀ t, label = some t → isLabel t) : OpenForm.bad ⟨label, lock.map Level.rank⟩ = false := by
  cases label with
  | none => simp [OpenForm.bad, badLock_rank]
  | some t => simp [OpenForm.bad, badLock_rank, badLabel_of_isLabel (h t rfl)]

theorem OpenForm_bad {label : Option (List Byte)} {lock : Option Nat}
    (h : (∃ t, label = some t ∧ ∃ c ∈ t, c.toNat < 0x20 ∨ 0x7E < c.toNat) ∨ ∃ k, lock = some k ∧ 2 < k) :
    OpenForm.bad ⟨label, lock⟩ = true := by
  rcases h with ⟨t, rfl, ht⟩ | ⟨k, rfl, hk⟩
  · simp [OpenForm.bad, badLabel_of_unprintable ht]
  · simp [OpenForm.bad, badLock_of_gt hk]

theorem lessonOpenMakesEmptyLesson : Says.LessonOpenMakesEmptyLesson := by
  intro s lvl l label lock hst hstored hlabel hlock
  rw [exec_lessonOpen]
  simp [firstFailure_cons, OpenForm_good lock hlabel, OpenForm_level_rank, hst, hstored, hlock,
    State.modLesson, Lesson.open, bne, Bool.beq_eq_decide_eq]

theorem lessonOpenRefusals : Says.LessonOpenRefusals := by
  intro s lvl label
  refine ⟨fun n lock h => ?payload, fun lock hlabel => ⟨fun n hn => ?number, fun l => ⟨?busy, ?state, ?locked⟩⟩⟩
  case payload => rw [exec_lessonOpen]; simp [OpenForm_bad h]
  all_goals
    have hgood := OpenForm_good lock hlabel
  case number => rw [exec_lessonOpen]; simp [hgood, badLesson_of_outside hn]
  case busy => intro h; rw [exec_lessonOpen]; simp [firstFailure_cons, hgood, h]
  case state =>
    rintro (hst | ⟨hst, hstored⟩)
    · rw [exec_lessonOpen]; simp [firstFailure_cons, hgood, hst]
    · rw [exec_lessonOpen]; simp [firstFailure_cons, hgood, hst, hstored]
  case locked =>
    intro hst hstored hlock
    rw [exec_lessonOpen]
    simp [firstFailure_cons, hgood, OpenForm_level_rank, hst, hstored, hlock]

/-! ### LESSON.SET (R36) -/

theorem exec_lessonSet (lvl : Level) (n : Nat) (form : LessonSetForm) (s : State) :
    exec (.lessonSet lvl n form) s =
      (firstFailure ([(form.label.isNone && form.lock.isNone, .argument), (form.bad, .range)]
          ++ s.lessonChecks lvl (form.need (s.lesson (lessonIdx n)).lock) n)).elim
        (answers
          (s.modLesson (lessonIdx n) fun x =>
            { x with
              label := editOr form.label x.label
              lock := (match form.lock with | some n => .ofNum n | none => x.lock)
              dirty := true })
          .ok .empty) fun c => answers s c .empty :=
  conclude_guarded s _ _

/-- A LESSON.SET with a well-formed payload is judged by the checks of its lesson alone. -/
theorem exec_lessonSet_good (s : State) (lvl : Level) (n : Nat) {label : Option (Edit (List Byte))}
    {lock : Option Level} (hitem : label.isSome ∨ lock.isSome) (hlabel : ∀ t, label = some (.put t) → isLabel t) :
    exec (.lessonSet lvl n ⟨label, lock.map Level.rank⟩) s =
      (firstFailure (s.lessonChecks lvl
          (LessonSetForm.need ⟨label, lock.map Level.rank⟩ (s.lesson (lessonIdx n)).lock) n)).elim
        (answers
          { s with
            lessons := s.lessons.set (lessonIdx n)
              { s.lesson (lessonIdx n) with
                label := editOr label (s.lesson (lessonIdx n)).label
                lock := lock.getD (s.lesson (lessonIdx n)).lock
                dirty := true } }
          .ok .empty) fun c => answers s c .empty := by
  have hitem' : (label.isNone && (lock.map Level.rank).isNone) = false := by
    rcases hitem with h | h <;> simp [Option.isNone_eq_false_iff.mpr h]
  have hbad : LessonSetForm.bad ⟨label, lock.map Level.rank⟩ = false := by
    rcases label with _ | _ | t
    · exact badLock_rank lock
    · exact badLock_rank lock
    · simp [LessonSetForm.bad, badEdit, badLabel_of_isLabel (hlabel t rfl), badLock_rank]
  rw [exec_lessonSet]
  simp only [List.cons_append, List.nil_append, hitem', hbad, firstFailure_false]
  cases lock <;> simp only [Option.map_none, Option.map_some, Option.getD_none, Option.getD_some, ofNum_rank] <;> rfl

theorem LessonSetForm_need_le_iff (label : Option (Edit (List Byte))) (lock : Option Level) (present lvl : Level) :
    (LessonSetForm.need ⟨label, lock.map Level.rank⟩ present).rank ≤ lvl.rank ↔
      present.rank ≤ lvl.rank ∧ ∀ k, lock = some k → k.rank ≤ lvl.rank := by
  cases lock <;> simp [LessonSetForm.need, rank_max_le_iff]

theorem lessonSetWritesItems : Says.LessonSetWritesItems := by
  intro s lvl l label lock hitem hlabel hst hlock hnew
  have hneed := (LessonSetForm_need_le_iff label lock (s.lesson l).lock lvl).mpr ⟨hlock, hnew⟩
  rw [exec_lessonSet_good s lvl _ hitem hlabel, firstFailure_lessonChecks]
  simp [hst, Nat.not_lt.mpr hneed]

theorem lessonSetRefusals : Says.LessonSetRefusals := by
  intro s lvl n
  refine ⟨?empty, fun label lock h => ?payload,
    fun label lock hitem hlabel => ⟨fun hn => ?number, fun l => ⟨fun hst => ?busy, fun hst => ?state, ?locked⟩⟩⟩
  case empty => rfl
  case payload =>
    have hitem : (label.isNone && lock.isNone) = false := by
      rcases h with ⟨t, rfl, -⟩ | ⟨k, rfl, -⟩ <;> simp
    have hbad : LessonSetForm.bad ⟨label, lock⟩ = true := by
      rcases h with ⟨t, rfl, ht⟩ | ⟨k, rfl, hk⟩
      · simp [LessonSetForm.bad, badEdit, badLabel_of_unprintable ht]
      · simp [LessonSetForm.bad, badLock_of_gt hk]
    rw [exec_lessonSet]
    simp [firstFailure_cons, hitem, hbad]
  all_goals
    rw [exec_lessonSet_good s lvl _ hitem hlabel]
  case number => rw [firstFailure_lessonChecks_number s lvl _ hn]; rfl
  all_goals
    rw [firstFailure_lessonChecks]
  case busy => simp [hst]
  case state => rcases hst with hst | hst <;> simp [hst]
  case locked =>
    intro hst hlock
    have hneed := (LessonSetForm_need_le_iff label lock (s.lesson l).lock lvl).not.mpr fun ⟨hpresent, hnew⟩ =>
      hlock.elim (fun h => Nat.not_lt.mpr hpresent h) fun ⟨k, hk, h⟩ => Nat.not_lt.mpr (hnew k hk) h
    simp [hst, Nat.lt_of_not_le hneed]

/-- Settles O13, from the checks of each command in the order of its rule. -/
theorem lessonNaming : Obligations.LessonNaming :=
  ⟨lessonActivateSetsActive, lessonOpenMakesEmptyLesson, lessonOpenRefusals, lessonSetWritesItems,
    lessonSetRefusals⟩

end Sys2Proof.Machine.LessonLaws
end

section
/-! SUPPORT. LESSON.STEP and the presenter's edges (R41 to R44). -/

namespace Sys2Proof.Machine.LessonLaws

theorem exec_nextEdge (s : State) : exec .nextEdge s = .next (s.edgeStep .next) := rfl

theorem exec_prevEdge (s : State) : exec .prevEdge s = .next (s.edgeStep .prev) := rfl

theorem exec_lessonStep (form : StepForm) (s : State) :
    exec (.lessonStep form) s = conclude (lessonStepBlock form s) := rfl

/-! ### The active lesson and the position a step goes to (R41) -/

theorem stepLesson_eq_some {s : State} {l : Fin 8} (hactive : s.active = some l)
    (hst : (s.lesson l).st = .opened ∨ (s.lesson l).st = .committing) (horder : (s.lesson l).order ≠ []) :
    s.stepLesson = some l := by
  have hpresent : (s.lesson l).present = true := by simpa [Lesson.present] using hst
  simp [State.stepLesson, hactive, hpresent, horder]

theorem stepLesson_eq_none {s : State}
    (h : s.active = none ∨ ∃ l : Fin 8, s.active = some l ∧ (s.lesson l).order = []) : s.stepLesson = none := by
  rcases h with hnone | ⟨l, hl, horder⟩
  · simp [State.stepLesson, hnone]
  · simp [State.stepLesson, hl, horder]

theorem stepCursor_eq_steppedTo (k : StepKind) (q : Nat) (c : Option Nat) (n : Nat) :
    stepCursor k q c n = steppedTo k q c n := by
  cases k
  case prev =>
    cases c with
    | none => rfl
    | some c => simp only [stepCursor, steppedTo]; split <;> simp_all
  all_goals cases c <;> rfl

/-- The position of any other kind does not depend on the payload's position. -/
theorem steppedTo_of_ne_position {k : StepKind} (h : k ≠ .position) (q q' : Nat) (c : Option Nat) (n : Nat) :
    steppedTo k q c n = steppedTo k q' c n := by
  cases k
  case position => exact absurd rfl h
  all_goals cases c <;> rfl

theorem steppedTo_position (q : Nat) (c : Option Nat) (n : Nat) : steppedTo .position q c n = q := by
  cases c <;> rfl

/-! ### What a step does (R41, R44) -/

theorem entryAt_of_getElem? {s : State} {l : Fin 8} {p : Nat} {i : Fin 64}
    (h : (s.lesson l).order[p]? = some i) : s.entryAt l p = i := by
  simp [State.entryAt, List.getD_eq_getElem?_getD, h]

theorem goTo_eq_stepped {s : State} {l : Fin 8} {p : Nat} {i : Fin 64}
    (h : (s.lesson l).order[p]? = some i) : s.goTo l p = s.stepped l p i := by
  unfold State.goTo
  rw [entryAt_of_getElem? h]
  rfl

theorem stepAt_eq_stepped {s : State} {l : Fin 8} {k : StepKind} {q : Nat} {i : Fin 64}
    (h : (s.lesson l).order[steppedTo k q (s.lesson l).cursor (s.lesson l).order.length]? = some i) :
    s.stepAt l k q = s.stepped l (steppedTo k q (s.lesson l).cursor (s.lesson l).order.length) i := by
  unfold State.stepAt
  rw [stepCursor_eq_steppedTo, goTo_eq_stepped h]

theorem edgeStep_eq_stepped {s : State} {l : Fin 8} {k : StepKind} {i : Fin 64} (hl : s.stepLesson = some l)
    (h : (s.lesson l).order[steppedTo k 0 (s.lesson l).cursor (s.lesson l).order.length]? = some i) :
    s.edgeStep k = s.stepped l (steppedTo k 0 (s.lesson l).cursor (s.lesson l).order.length) i := by
  unfold State.edgeStep
  rw [hl]
  exact stepAt_eq_stepped h

theorem edgeStep_without_pages {s : State} (h : s.stepLesson = none) (k : StepKind) : s.edgeStep k = s := by
  simp [State.edgeStep, h]

/-! ### LESSON.STEP's payload, then its lesson (R43) -/

/-- A payload that passes R43's first checks: a position of 0..31 with the kind POSITION and none with another. -/
def GoodStep (k : StepKind) (q : Option Nat) : Prop :=
  (k ≠ .position ∧ q = none) ∨ (k = .position ∧ ∃ p, q = some p ∧ p ≤ 31)

theorem stepPayload_pass {k : StepKind} {q : Option Nat} (h : GoodStep k q) :
    firstFailure [((Code.val k).bad || outside 0 31 q, .range), (StepForm.malformed ⟨.val k, q⟩, .argument)] =
      none := by
  rcases h with ⟨hk, rfl⟩ | ⟨rfl, p, rfl, hp⟩
  · cases k
    case position => exact absurd rfl hk
    all_goals rfl
  · simp [Code.bad, outside, StepForm.malformed, Nat.not_lt.mpr hp]

theorem exec_lessonStep_payload_refused {form : StepForm} {s : State} {c : ResultCode}
    (h : firstFailure [(form.kind.bad || outside 0 31 form.pos, .range), (form.malformed, .argument)] = some c) :
    exec (.lessonStep form) s = answers s c .empty := by
  simp only [exec_lessonStep, lessonStepBlock, h, conclude_refuse]

theorem exec_lessonStep_without_pages {s : State} {k : StepKind} {q : Option Nat} (hgood : GoodStep k q)
    (h : s.stepLesson = none) : exec (.lessonStep ⟨.val k, q⟩) s = answers s .state .empty := by
  simp only [exec_lessonStep, lessonStepBlock, stepPayload_pass hgood, h, conclude_refuse]

theorem exec_lessonStep_steps {s : State} {l : Fin 8} {k : StepKind} {q : Option Nat} {p : Nat} {i : Fin 64}
    (hgood : GoodStep k q) (hl : s.stepLesson = some l)
    (hp : steppedTo k (q.getD 0) (s.lesson l).cursor (s.lesson l).order.length = p)
    (hi : (s.lesson l).order[p]? = some i) :
    exec (.lessonStep ⟨.val k, q⟩) s = answers (s.stepped l p i) .ok (.stepped p ⟨i, (s.page i).gen⟩) := by
  have hlt : ¬ (s.lesson l).order.length ≤ p := Nat.not_le.mpr (List.getElem?_eq_some_iff.mp hi).1
  subst hp
  simp only [exec_lessonStep, lessonStepBlock, stepPayload_pass hgood, hl, Code.getD, stepCursor_eq_steppedTo,
    hlt, if_false, stepAt_eq_stepped hi, entryAt_of_getElem? hi, conclude_doneWith]
  rfl

theorem exec_lessonStep_beyond_order {s : State} {l : Fin 8} {q : Nat} (hq : q ≤ 31)
    (hl : s.stepLesson = some l) (hlen : (s.lesson l).order.length ≤ q) :
    exec (.lessonStep ⟨.val .position, some q⟩) s = answers s .range .empty := by
  simp only [exec_lessonStep, lessonStepBlock, stepPayload_pass (.inr ⟨rfl, q, rfl, hq⟩), hl, Code.getD,
    Option.getD_some, stepCursor_eq_steppedTo, steppedTo_position, hlen, if_true, conclude_refuse]

/-! ### The statements -/

theorem stepsMoveCursorAndStage : Says.StepsMoveCursorAndStage := by
  intro s l q i hactive hst horder
  have hl := stepLesson_eq_some hactive hst horder
  refine ⟨fun k hk hi => ?kinds, fun hq hi => ?position, fun hi => ?next, fun hi => ?prev⟩
  case kinds =>
    exact exec_lessonStep_steps (.inl ⟨hk, rfl⟩) hl (steppedTo_of_ne_position hk _ _ _ _) hi
  case position =>
    exact exec_lessonStep_steps (.inr ⟨rfl, q, rfl, hq⟩) hl (steppedTo_position _ _ _) hi
  case next =>
    have hq := steppedTo_of_ne_position (k := .next) (by decide) q 0
    rw [hq] at hi ⊢
    rw [exec_nextEdge, edgeStep_eq_stepped hl hi]
  case prev =>
    have hq := steppedTo_of_ne_position (k := .prev) (by decide) q 0
    rw [hq] at hi ⊢
    rw [exec_prevEdge, edgeStep_eq_stepped hl hi]

theorem stepsWithoutPages : Says.StepsWithoutPages := by
  intro s h
  have hnone := stepLesson_eq_none h
  refine ⟨?next, ?prev, fun k hk => ?kinds, fun q hq => ?position⟩
  case next => rw [exec_nextEdge, edgeStep_without_pages hnone]
  case prev => rw [exec_prevEdge, edgeStep_without_pages hnone]
  case kinds => exact exec_lessonStep_without_pages (.inl ⟨hk, rfl⟩) hnone
  case position => exact exec_lessonStep_without_pages (.inr ⟨rfl, q, rfl, hq⟩) hnone

theorem stepPayloadsRefused : Says.StepPayloadsRefused := by
  intro s
  refine ⟨fun kind q h => ?range, rfl, fun k q hk hq => ?spurious, fun l q hactive hst horder hq hlen => ?beyond⟩
  case range =>
    apply exec_lessonStep_payload_refused
    rcases h with rfl | ⟨n, rfl, hn⟩
    · rfl
    · simp [outside, hn]
  case spurious =>
    apply exec_lessonStep_payload_refused
    cases k
    case position => exact absurd rfl hk
    all_goals simp [Code.bad, outside, StepForm.malformed, Nat.not_lt.mpr hq]
  case beyond =>
    exact exec_lessonStep_beyond_order hq (stepLesson_eq_some hactive hst horder) hlen

/-- Settles O16: the payload's checks come first, then the active lesson, then the position the step goes to. -/
theorem steps : Obligations.Steps := ⟨stepsMoveCursorAndStage, stepsWithoutPages, stepPayloadsRefused⟩

end Sys2Proof.Machine.LessonLaws
end

section
/-! SUPPORT. LESSON.PLACE, LESSON.MOVE and LESSON.REMOVE (R37 to R40): their checks are those the rules list, and
what they do to the tables. -/

namespace Sys2Proof.Machine.LessonLaws

/-! ### Entries of an order -/

theorem idxOf?_of_mem {α : Type} [DecidableEq α] {order : List α} {x : α} (h : x ∈ order) :
    order.idxOf? x = some (order.idxOf x) := by
  cases hx : order.idxOf? x with
  | none => exact absurd h (List.idxOf?_eq_none_iff.mp hx)
  | some p => rw [List.idxOf_eq_getD_idxOf?, hx, Option.getD_some]

theorem leaveLesson_of_loose {s : State} {i : Fin 64} (h : (s.page i).lesson = none) : s.leaveLesson i = s := by
  simp [State.leaveLesson, h]

theorem leaveLesson_of_mem {s : State} {i : Fin 64} {l : Fin 8} (hl : (s.page i).lesson = some l)
    (hi : i ∈ (s.lesson l).order) :
    s.leaveLesson i = s.removeEntry l i ((s.lesson l).order.idxOf i) := by
  simp [State.leaveLesson, hl, idxOf?_of_mem hi]

/-- A removal of an entry, written out (R32, R33). -/
theorem removeEntry_eq {s : State} {l : Fin 8} {p : Nat} (i : Fin 64) (hp : p < (s.lesson l).order.length) :
    s.removeEntry l i p =
      { s with
        records := s.records.set i { s.page i with lesson := none, dirty := true }
        lessons := s.lessons.set l
          { s.lesson l with
            order := (s.lesson l).order.eraseIdx p
            cursor := cursorRemove (s.lesson l).cursor p ((s.lesson l).order.length - 1)
            dirty := true } } := by
  rw [← List.length_eraseIdx_of_lt hp]
  rfl

theorem insertEntry_eq_allocated (s : State) (d : Fin 8) (i : Fin 64) (p : Nat) :
    s.insertEntry d i p = s.allocated i (s.page i) (some (d, p)) := rfl

/-- A move of an entry, written out (R32, R33, R39). -/
theorem moveEntry_eq {s : State} {l : Fin 8} {a : Nat} {i : Fin 64} (b : Nat)
    (h : (s.lesson l).order[a]? = some i) :
    s.moveEntry l a b =
      { s with
        records := s.records.set i { s.page i with dirty := true }
        lessons := s.lessons.set l
          { s.lesson l with
            order := ((s.lesson l).order.eraseIdx a).insertIdx b i
            cursor := cursorMove (s.lesson l).cursor a b
            dirty := true } } := by
  obtain rfl := entryAt_of_getElem? h
  rfl

/-! ### The checks of R37 to R40 -/

theorem firstFailure_lessonChecks_eq_lessonRefusal (s : State) (lvl : Level) (n : Nat) :
    firstFailure (s.lessonChecks lvl (s.lesson (lessonIdx n)).lock n) = s.lessonRefusal lvl n := by
  simp [State.lessonChecks, State.lessonRefusal, firstFailure_cons, badLesson]

theorem lessonRefusal_eq_none {s : State} {lvl : Level} {l : Fin 8} (hst : (s.lesson l).st = .opened)
    (hlock : (s.lesson l).lock.rank ≤ lvl.rank) : s.lessonRefusal lvl (l.val + 1) = none := by
  rw [← firstFailure_lessonChecks_eq_lessonRefusal, firstFailure_lessonChecks]
  simp [hst, Nat.not_lt.mpr hlock]

/-- The checks LESSON.MOVE makes after its positions' bound are those of R39; at one position they are R40's. -/
theorem firstFailure_entryChecks (s : State) (lvl : Level) (n a b : Nat) :
    firstFailure (s.lessonChecks lvl (s.lesson (lessonIdx n)).lock n
      ++ [(decide ((s.lesson (lessonIdx n)).order.length ≤ a)
            || decide ((s.lesson (lessonIdx n)).order.length ≤ b), .range),
          (!lvl.passes (s.page (s.entryAt (lessonIdx n) a)).setup.lock, .locked)]) =
      s.entryRefusal lvl n a b := by
  rw [firstFailure_append, firstFailure_lessonChecks_eq_lessonRefusal]
  unfold State.entryRefusal
  cases s.lessonRefusal lvl n with
  | some c => rfl
  | none =>
    rcases Nat.lt_or_ge a (s.lesson (lessonIdx n)).order.length with ha | ha
    · have hi := List.getElem?_eq_getElem ha
      rcases Nat.lt_or_ge b (s.lesson (lessonIdx n)).order.length with hb | hb
      · simp [firstFailure_cons, entryAt_of_getElem? hi, ha, hb]
      · simp [hi, hb]
    · simp [ha]

theorem entryRefusal_eq_none {s : State} {lvl : Level} {l : Fin 8} {i : Fin 64} {a b : Nat}
    (hst : (s.lesson l).st = .opened) (hlock : (s.lesson l).lock.rank ≤ lvl.rank)
    (ha : (s.lesson l).order[a]? = some i) (hb : b < (s.lesson l).order.length)
    (hpage : (s.page i).setup.lock.rank ≤ lvl.rank) : s.entryRefusal lvl (l.val + 1) a b = none := by
  simp [State.entryRefusal, lessonRefusal_eq_none hst hlock, ha, hb, Nat.not_lt.mpr hpage]

theorem exec_lessonMove (s : State) (lvl : Level) (n a b : Nat) :
    exec (.lessonMove lvl n a b) s =
      (if 31 < a ∨ 31 < b then some .range else s.entryRefusal lvl n a b).elim
        (answers (s.moveEntry (lessonIdx n) a b) .ok .empty) fun c => answers s c .empty := by
  rw [← firstFailure_entryChecks]
  refine (conclude_guarded s _ _).trans ?_
  simp only [List.cons_append, List.nil_append, firstFailure_cons, Bool.or_eq_true,
    decide_eq_true_eq]
  rfl

theorem exec_lessonRemove (s : State) (lvl : Level) (n p : Nat) :
    exec (.lessonRemove lvl n p) s =
      (if 31 < p then some .range else s.entryRefusal lvl n p p).elim
        (answers (s.removeEntry (lessonIdx n) (s.entryAt (lessonIdx n) p) p) .ok
          (.handle (s.handleOf (s.entryAt (lessonIdx n) p)))) fun c => answers s c .empty := by
  rw [← firstFailure_entryChecks, Bool.or_self]
  refine (conclude_guarded s _ _).trans ?_
  simp only [List.cons_append, List.nil_append, firstFailure_cons, decide_eq_true_eq]
  rfl

/-! ### The checks of LESSON.PLACE (R38) -/

theorem record_eq_zero_iff {h : PageRef} (hidx : ¬ 63 < h.idx.toNat) : h.record = 0 ↔ h.idx = 0 := by
  have hlt : h.idx.toNat < 64 := by omega
  rw [← Fin.val_inj, ← BitVec.toNat_inj]
  simp [PageRef.record, recIdx, Nat.mod_eq_of_lt hlt]

/-- LESSON.PLACE's checks of the record: index, record 0, handle, lock (R38). -/
def pageChecks (s : State) (lvl : Level) (h : PageRef) : List Check :=
  [(h.badIndex, .range), (h.record == 0, .target), (!s.isCurrent h, .stale),
    (!lvl.passes (s.page h.record).setup.lock, .locked)]

theorem firstFailure_pageChecks (s : State) (lvl : Level) (h : PageRef) (rest : List Check) :
    firstFailure (pageChecks s lvl h ++ rest) =
      if 63 < h.idx.toNat then some .range
      else if h.idx = 0 then some .target
      else if h.gen ≠ (s.page h.record).gen ∨ (s.page h.record).st ≠ .opened then some .stale
      else if lvl.rank < (s.page h.record).setup.lock.rank then some .locked
      else firstFailure rest := by
  by_cases hidx : 63 < h.idx.toNat
  · simp [pageChecks, PageRef.badIndex, hidx]
  · simp [pageChecks, PageRef.badIndex, firstFailure_cons, hidx, record_eq_zero_iff hidx, State.isCurrent]

/-- LESSON.PLACE's checks of the destination lesson (R38). -/
def destinationChecks (s : State) (lvl : Level) (i : Fin 64) (d : Fin 8) : List Check :=
  [((s.lesson d).st == .committing, .busy), ((s.lesson d).st != .opened, .state),
    (!lvl.passes (s.lesson d).lock, .locked), ((s.page i).lesson == some d, .state)]

theorem firstFailure_destinationChecks (s : State) (lvl : Level) (i : Fin 64) (d : Fin 8) (rest : List Check) :
    firstFailure (destinationChecks s lvl i d ++ rest) =
      if (s.lesson d).st = .committing then some .busy
      else if (s.lesson d).st ≠ .opened then some .state
      else if lvl.rank < (s.lesson d).lock.rank then some .locked
      else if (s.page i).lesson = some d then some .state
      else firstFailure rest := by
  simp [destinationChecks, firstFailure_cons]

theorem firstFailure_sourceChecks (s : State) (lvl : Level) (i : Fin 64) (rest : List Check) :
    firstFailure (s.sourceChecks lvl i ++ rest) =
      if ∃ l : Fin 8, (s.page i).lesson = some l ∧ (s.lesson l).st = .committing then some .busy
      else if ∃ l : Fin 8, (s.page i).lesson = some l ∧ lvl.rank < (s.lesson l).lock.rank then some .locked
      else firstFailure rest := by
  cases hl : (s.page i).lesson with
  | none => simp [State.sourceChecks, hl]
  | some l => simp [State.sourceChecks, hl, firstFailure_cons]

/-- LESSON.PLACE's checks, taken together, are those R38 lists. -/
theorem firstFailure_placeChecks (s : State) (lvl : Level) (h : PageRef) (n p : Nat) :
    firstFailure ((badLesson n || decide (32 < p), .range) :: (pageChecks s lvl h
      ++ (destinationChecks s lvl h.record (lessonIdx n) ++ (s.sourceChecks lvl h.record
        ++ [(decide (32 ≤ (s.lesson (lessonIdx n)).order.length), .full),
          (decide ((s.lesson (lessonIdx n)).order.length < p), .range)])))) = s.placeRefusal lvl h n p := by
  rw [firstFailure_cons, firstFailure_pageChecks, firstFailure_destinationChecks, firstFailure_sourceChecks]
  simp only [firstFailure_cons, firstFailure_nil, badLesson, Bool.or_eq_true, decide_eq_true_eq, or_assoc]
  rfl

theorem exec_lessonPlace (s : State) (lvl : Level) (h : PageRef) (n p : Nat) :
    exec (.lessonPlace lvl h ⟨n, p⟩) s =
      (s.placeRefusal lvl h n p).elim
        (answers ((s.leaveLesson h.record).insertEntry (lessonIdx n) h.record p) .ok (.position p))
        fun c => answers s c .empty := by
  rw [← firstFailure_placeChecks]
  refine (conclude_guarded s _ _).trans ?_
  rw [List.append_assoc, List.append_assoc]
  rfl

/-! ### A record named by its present handle -/

theorem refTo_idx_toNat (s : State) (i : Fin 64) : (s.refTo i).idx.toNat = i.val := by
  simp [State.refTo, Nat.mod_eq_of_lt (show i.val < 256 by omega)]

@[simp] theorem refTo_record (s : State) (i : Fin 64) : (s.refTo i).record = i := by
  simp [PageRef.record, recIdx, refTo_idx_toNat]

theorem refTo_idx_eq_zero_iff (s : State) (i : Fin 64) : (s.refTo i).idx = 0 ↔ i = 0 := by
  have hidx : ¬ 63 < (s.refTo i).idx.toNat := by rw [refTo_idx_toNat]; omega
  rw [← record_eq_zero_iff hidx, refTo_record]

/-- LESSON.PLACE passes its checks of a current handle and an open destination where the source lesson, if any,
passes its own (R38). -/
theorem placeRefusal_eq_none {s : State} {lvl : Level} {i : Fin 64} {d : Fin 8} {p : Nat} (hi : i ≠ 0)
    (hst : (s.page i).st = .opened) (hlock : (s.page i).setup.lock.rank ≤ lvl.rank)
    (hplace : s.placeable lvl .presenter (some (d, p))) (hother : (s.page i).lesson ≠ some d)
    (hsource : ∀ l : Fin 8, (s.page i).lesson = some l →
      (s.lesson l).st ≠ .committing ∧ (s.lesson l).lock.rank ≤ lvl.rank) :
    s.placeRefusal lvl (s.refTo i) (d.val + 1) p = none := by
  obtain ⟨hdst, hdlock, -, hroom, hp⟩ := hplace
  have hrec : recIdx (s.refTo i).idx.toNat = i := refTo_record s i
  have hgen : (s.refTo i).gen = (s.page i).gen := rfl
  have hnumber : ¬ (d.val + 1 < 1 ∨ 8 < d.val + 1 ∨ 32 < p) := by omega
  have hidx : ¬ 63 < (s.refTo i).idx.toNat := by rw [refTo_idx_toNat]; omega
  have hbusy : ¬ ∃ l : Fin 8, (s.page i).lesson = some l ∧ (s.lesson l).st = .committing :=
    fun ⟨l, hl, hc⟩ => (hsource l hl).1 hc
  have hlocked : ¬ ∃ l : Fin 8, (s.page i).lesson = some l ∧ lvl.rank < (s.lesson l).lock.rank :=
    fun ⟨l, hl, hc⟩ => Nat.not_lt.mpr (hsource l hl).2 hc
  simp only [State.placeRefusal, hrec, hgen, lessonIdx_succ, if_neg hnumber, if_neg hidx, refTo_idx_eq_zero_iff,
    if_neg hi, hst, Nat.not_lt.mpr hlock, hdst, Nat.not_lt.mpr hdlock, if_neg hother, if_neg hbusy, if_neg hlocked,
    Nat.not_le.mpr hroom, Nat.not_lt.mpr hp]
  simp

/-! ### The statements -/

theorem lessonPlaceInserts : Says.LessonPlaceInserts := by
  intro s lvl i d p hi hst hlock hplace
  refine ⟨fun hloose => ?loose, fun l hl hld hcommit hllock hmem => ?placed⟩
  case loose =>
    have hnone := placeRefusal_eq_none hi hst hlock hplace (by simp [hloose]) (by simp [hloose])
    rw [exec_lessonPlace, hnone, refTo_record, lessonIdx_succ, leaveLesson_of_loose hloose]
    rfl
  case placed =>
    have hsource : ∀ m : Fin 8, (s.page i).lesson = some m →
        (s.lesson m).st ≠ .committing ∧ (s.lesson m).lock.rank ≤ lvl.rank := by
      intro m hm
      obtain rfl : l = m := Option.some.inj (hl.symm.trans hm)
      exact ⟨hcommit, hllock⟩
    have hnone := placeRefusal_eq_none hi hst hlock hplace (by simpa [hl] using hld) hsource
    rw [exec_lessonPlace, hnone, refTo_record, lessonIdx_succ, leaveLesson_of_mem hl hmem,
      removeEntry_eq i (List.idxOf_lt_length_iff.mpr hmem), insertEntry_eq_allocated]
    simp [State.allocated, State.page, State.lesson]

theorem lessonMoveReorders : Says.LessonMoveReorders := by
  intro s lvl l i a b hst hlock hlen ha hb hpage
  obtain ⟨halt, -⟩ := List.getElem?_eq_some_iff.mp ha
  have hbound : ¬ (31 < a ∨ 31 < b) := by omega
  rw [exec_lessonMove, if_neg hbound, entryRefusal_eq_none hst hlock ha hb hpage, lessonIdx_succ,
    moveEntry_eq b ha]
  rfl

theorem lessonRemoveTakesOut : Says.LessonRemoveTakesOut := by
  intro s lvl l i p hst hlock hp hi hpage
  obtain ⟨hlt, -⟩ := List.getElem?_eq_some_iff.mp hi
  rw [exec_lessonRemove, if_neg (Nat.not_lt.mpr hp), entryRefusal_eq_none hst hlock hi hlt hpage, lessonIdx_succ,
    entryAt_of_getElem? hi, removeEntry_eq i hlt]
  rfl

theorem orderChangesRefused : Says.OrderChangesRefused := by
  intro s lvl c
  refine ⟨fun h n p hc => ?place, fun n a b => ⟨fun h => ?moveBound, fun h => ?removeBound,
    fun ha hb hc => ?move, fun ha hc => ?remove⟩⟩
  case place => rw [exec_lessonPlace, hc]; rfl
  case moveBound => rw [exec_lessonMove, if_pos h]; rfl
  case removeBound => rw [exec_lessonRemove, if_pos h]; rfl
  case move =>
    have hbound : ¬ (31 < a ∨ 31 < b) := by omega
    rw [exec_lessonMove, if_neg hbound, hc]; rfl
  case remove => rw [exec_lessonRemove, if_neg (Nat.not_lt.mpr ha), hc]; rfl

/-- Settles O14: each command is decided by its refusal, and its effect on the tables is written out once. -/
theorem orderChanges : Obligations.OrderChanges :=
  ⟨lessonPlaceInserts, lessonMoveReorders, lessonRemoveTakesOut, orderChangesRefused⟩

end Sys2Proof.Machine.LessonLaws
end

section
/-! SUPPORT. What a retire does to the record, its slots and its lesson (R26, R52, R60), operation by operation. -/

namespace Sys2Proof.Machine.LessonLaws

/-! ### removeEntry -/

theorem removeEntry_page (s : State) (l : Fin 8) (i j : Fin 64) (p : Nat) :
    (s.removeEntry l i p).page j = if i = j then { s.page i with lesson := none, dirty := true } else s.page j :=
  State.modPage_page _ i j _

theorem removeEntry_lessons (s : State) (l : Fin 8) (i : Fin 64) (p : Nat) :
    (s.removeEntry l i p).lessons = s.lessons.set l ((s.removeEntry l i p).lesson l) := by
  simp [State.removeEntry, State.lesson]

theorem removeEntry_lesson_same (s : State) (l : Fin 8) (i : Fin 64) (p : Nat) :
    (s.removeEntry l i p).lesson l =
      { s.lesson l with
        order := (s.lesson l).order.eraseIdx p
        cursor := cursorRemove (s.lesson l).cursor p ((s.lesson l).order.eraseIdx p).length
        dirty := true } := by
  simp [State.removeEntry]

@[simp] theorem removeEntry_slot (s : State) (l : Fin 8) (i : Fin 64) (p : Nat) (k : Fin 24) :
    (s.removeEntry l i p).slot k = s.slot k := rfl
@[simp] theorem removeEntry_freeBlocks (s : State) (l : Fin 8) (i : Fin 64) (p : Nat) :
    (s.removeEntry l i p).freeBlocks = s.freeBlocks := rfl
@[simp] theorem removeEntry_active (s : State) (l : Fin 8) (i : Fin 64) (p : Nat) :
    (s.removeEntry l i p).active = s.active := rfl
@[simp] theorem removeEntry_views (s : State) (l : Fin 8) (i : Fin 64) (p : Nat) :
    (s.removeEntry l i p).views = s.views := rfl
@[simp] theorem removeEntry_link (s : State) (l : Fin 8) (i : Fin 64) (p : Nat) :
    (s.removeEntry l i p).link = s.link := rfl

/-! ### freeSlot and releaseSlot (R49, R52) -/

theorem freeSlot_slot (s : State) (k j : Fin 24) :
    (s.freeSlot k).slot j = if k = j then (s.slot k).freed else s.slot j :=
  State.modSlot_slot s k j Slot.freed

@[simp] theorem freeSlot_page (s : State) (k : Fin 24) (j : Fin 64) : (s.freeSlot k).page j = s.page j := rfl

theorem releaseSlot_slot (s : State) (k j : Fin 24) :
    (s.releaseSlot k).slot j = if k = j then (s.slot k).released else s.slot j := by
  unfold State.releaseSlot Slot.released
  split
  · exact freeSlot_slot s k j
  · exact State.modSlot_slot s k j _

theorem releaseSlot_freeBlocks (s : State) (k : Fin 24) :
    (s.releaseSlot k).freeBlocks = s.freeBlocks + s.blocksReleased (some k) := by
  unfold State.releaseSlot
  by_cases h : (s.slot k).holds = 0
  · rw [if_pos h, State.blocksReleased, if_pos h]
    rfl
  · rw [if_neg h, State.blocksReleased, if_neg h]
    rfl

theorem releaseSlot_records (s : State) (k : Fin 24) : (s.releaseSlot k).records = s.records := by
  unfold State.releaseSlot; split <;> rfl
@[simp] theorem releaseSlot_page (s : State) (k : Fin 24) (j : Fin 64) : (s.releaseSlot k).page j = s.page j := by
  simp only [State.page, releaseSlot_records]
@[simp] theorem releaseSlot_lessons (s : State) (k : Fin 24) : (s.releaseSlot k).lessons = s.lessons := by
  unfold State.releaseSlot; split <;> rfl
@[simp] theorem releaseSlot_active (s : State) (k : Fin 24) : (s.releaseSlot k).active = s.active := by
  unfold State.releaseSlot; split <;> rfl
@[simp] theorem releaseSlot_views (s : State) (k : Fin 24) : (s.releaseSlot k).views = s.views := by
  unfold State.releaseSlot; split <;> rfl
@[simp] theorem releaseSlot_link (s : State) (k : Fin 24) : (s.releaseSlot k).link = s.link := by
  unfold State.releaseSlot; split <;> rfl

/-! ### abortFill (R60) -/

theorem abortFill_page (s : State) (i j : Fin 64) :
    (s.abortFill i).page j = if i = j then { s.page i with fill := none } else s.page j := by
  unfold State.abortFill
  cases h : (s.page i).fill with
  | none =>
    by_cases hij : i = j
    · rw [if_pos hij, ← hij]
      exact congrArg (fun f => { s.page i with fill := f }) h
    · rw [if_neg hij]
  | some k => exact State.modPage_page s i j fun r => { r with fill := none }

theorem abortFill_slot (s : State) (i : Fin 64) (k : Fin 24) :
    (s.abortFill i).slot k = if (s.page i).fill = some k then (s.slot k).freed else s.slot k := by
  unfold State.abortFill
  cases h : (s.page i).fill with
  | none => simp
  | some m =>
    simp only [State.setFlag_slot, freeSlot_slot, State.modPage_slot, Option.some.injEq]
    split <;> simp_all

theorem abortFill_freeBlocks (s : State) (i : Fin 64) :
    (s.abortFill i).freeBlocks = s.freeBlocks + s.blocksOf (s.page i).fill := by
  unfold State.abortFill
  cases (s.page i).fill <;> rfl

theorem abortFill_status (s : State) (i : Fin 64) :
    (s.abortFill i).link.status = s.statusAborting (s.page i).fill := by
  unfold State.abortFill
  cases (s.page i).fill <;> rfl

@[simp] theorem abortFill_lessons (s : State) (i : Fin 64) : (s.abortFill i).lessons = s.lessons := by
  unfold State.abortFill; split <;> rfl
@[simp] theorem abortFill_active (s : State) (i : Fin 64) : (s.abortFill i).active = s.active := by
  unfold State.abortFill; split <;> rfl
@[simp] theorem abortFill_views (s : State) (i : Fin 64) : (s.abortFill i).views = s.views := by
  unfold State.abortFill; split <;> rfl

/-! ### advanceGen (R26 step 3) -/

theorem advanceGen_page (s : State) (i j : Fin 64) :
    (s.advanceGen i).page j = if i = j then { s.page i with gen := (s.page i).gen + 1 } else s.page j := by
  unfold State.advanceGen
  cases (s.page i).still <;> exact State.modPage_page s i j fun r => { r with gen := r.gen + 1 }

theorem advanceGen_slot (s : State) (i : Fin 64) (k : Fin 24) :
    (s.advanceGen i).slot k =
      if (s.page i).still = some k then { s.slot k with record := some ⟨i, (s.page i).gen + 1⟩ } else s.slot k := by
  unfold State.advanceGen
  cases h : (s.page i).still with
  | none => simp
  | some m =>
    simp only [State.modSlot_slot, State.modPage_slot, State.handleOf, State.modPage_page_same, Option.some.injEq]
    split <;> simp_all

@[simp] theorem advanceGen_freeBlocks (s : State) (i : Fin 64) : (s.advanceGen i).freeBlocks = s.freeBlocks := by
  unfold State.advanceGen; dsimp only; split <;> rfl
@[simp] theorem advanceGen_lessons (s : State) (i : Fin 64) : (s.advanceGen i).lessons = s.lessons := by
  unfold State.advanceGen; dsimp only; split <;> rfl
@[simp] theorem advanceGen_active (s : State) (i : Fin 64) : (s.advanceGen i).active = s.active := by
  unfold State.advanceGen; dsimp only; split <;> rfl
@[simp] theorem advanceGen_views (s : State) (i : Fin 64) : (s.advanceGen i).views = s.views := by
  unfold State.advanceGen; dsimp only; split <;> rfl
@[simp] theorem advanceGen_link (s : State) (i : Fin 64) : (s.advanceGen i).link = s.link := by
  unfold State.advanceGen; dsimp only; split <;> rfl

/-! ### freeRecord (R1) -/

theorem releaseStill_page_ne (s : State) {i j : Fin 64} (h : i ≠ j) : (s.releaseStill i).page j = s.page j := by
  unfold State.releaseStill
  cases (s.page i).still with
  | none => rfl
  | some k => rw [releaseSlot_page, State.modPage_page_ne s _ h]

theorem releaseStill_gen (s : State) (i : Fin 64) : ((s.releaseStill i).page i).gen = (s.page i).gen := by
  unfold State.releaseStill
  cases (s.page i).still with
  | none => rfl
  | some k => rw [releaseSlot_page, State.modPage_page_same]

theorem freeRecord_page (s : State) (i j : Fin 64) :
    (s.freeRecord i).page j = if i = j then Record.blank (s.page i).gen else s.page j := by
  unfold State.freeRecord
  rw [State.modPage_page]
  split
  next => rw [releaseStill_gen]
  next h => exact releaseStill_page_ne s h

theorem freeRecord_slot (s : State) (i : Fin 64) (k : Fin 24) :
    (s.freeRecord i).slot k = if (s.page i).still = some k then (s.slot k).released else s.slot k := by
  unfold State.freeRecord State.releaseStill
  cases h : (s.page i).still with
  | none => simp
  | some m =>
    simp only [State.modPage_slot, releaseSlot_slot, Option.some.injEq]
    split <;> simp_all

theorem freeRecord_freeBlocks (s : State) (i : Fin 64) :
    (s.freeRecord i).freeBlocks = s.freeBlocks + s.blocksReleased (s.page i).still := by
  unfold State.freeRecord State.releaseStill
  cases (s.page i).still with
  | none => rfl
  | some k => exact releaseSlot_freeBlocks _ k

@[simp] theorem freeRecord_lessons (s : State) (i : Fin 64) : (s.freeRecord i).lessons = s.lessons := by
  unfold State.freeRecord State.releaseStill; split <;> simp
@[simp] theorem freeRecord_active (s : State) (i : Fin 64) : (s.freeRecord i).active = s.active := by
  unfold State.freeRecord State.releaseStill; split <;> simp
@[simp] theorem freeRecord_views (s : State) (i : Fin 64) : (s.freeRecord i).views = s.views := by
  unfold State.freeRecord State.releaseStill; split <;> simp
@[simp] theorem freeRecord_link (s : State) (i : Fin 64) : (s.freeRecord i).link = s.link := by
  unfold State.freeRecord State.releaseStill; split <;> simp

/-! ### Retiring a record of an order (R26) -/

/-- The record that a retire leaves of r, a record of an order (R26). -/
def retiredRecord (r : Record) : Record :=
  if r.holds = 0 then Record.blank (r.gen + 1)
  else { r with st := .retiring, gen := r.gen + 1, lesson := none, fill := none, dirty := true }

/-- What a retire of record i leaves of slot k: freed as its fill pending, released or renamed as its still, and
as it was otherwise (R52, R60, R64). -/
def retiredSlot (s : State) (i : Fin 64) (k : Fin 24) : Slot :=
  if (s.page i).fill = some k then (s.slot k).freed
  else if (s.page i).still = some k then
    if (s.page i).holds = 0 then (s.slot k).released
    else { s.slot k with record := some ⟨i, (s.page i).gen + 1⟩ }
  else s.slot k

/-- The blocks a retire of record i returns (R49, R52). -/
def retiredBlocks (s : State) (i : Fin 64) : Nat :=
  s.blocksOf (s.page i).fill + if (s.page i).holds = 0 then s.blocksReleased (s.page i).still else 0

/-- A retire's steps up to the one its holds decide. -/
def unloaded (s : State) (i : Fin 64) : State := ((s.leaveLesson i).abortFill i).advanceGen i

theorem retire_eq (s : State) (i : Fin 64) :
    s.retire i =
      if (s.page i).holds = 0 then (unloaded s i).freeRecord i
      else (unloaded s i).modPage i fun r => { r with st := .retiring } := rfl

/-- A slot's record does not matter to its release. -/
theorem released_withRecord (x : Slot) (h : Option Handle) : { x with record := h }.released = x.released := rfl

section
variable {s : State} {l : Fin 8} {i : Fin 64} (hl : (s.page i).lesson = some l) (hi : i ∈ (s.lesson l).order)
include hl hi

theorem unloaded_page (j : Fin 64) :
    (unloaded s i).page j =
      if i = j then { s.page i with gen := (s.page i).gen + 1, lesson := none, fill := none, dirty := true }
      else s.page j := by
  unfold unloaded
  rw [leaveLesson_of_mem hl hi]
  split <;> simp [advanceGen_page, abortFill_page, removeEntry_page, *]

theorem unloaded_slot (k : Fin 24) (happart : ∀ k : Fin 24, (s.page i).still = some k → (s.page i).fill ≠ some k) :
    (unloaded s i).slot k =
      if (s.page i).fill = some k then (s.slot k).freed
      else if (s.page i).still = some k then { s.slot k with record := some ⟨i, (s.page i).gen + 1⟩ }
      else s.slot k := by
  unfold unloaded
  rw [leaveLesson_of_mem hl hi]
  have hk := happart k
  simp only [advanceGen_slot, abortFill_page, abortFill_slot, removeEntry_page, removeEntry_slot, if_true]
  by_cases hs : (s.page i).still = some k
  · simp [hs, hk hs]
  · simp [hs]

theorem unloaded_freeBlocks : (unloaded s i).freeBlocks = s.freeBlocks + s.blocksOf (s.page i).fill := by
  unfold unloaded
  rw [leaveLesson_of_mem hl hi, advanceGen_freeBlocks, abortFill_freeBlocks, removeEntry_page, if_pos rfl]
  rfl

theorem unloaded_status : (unloaded s i).link.status = s.statusAborting (s.page i).fill := by
  unfold unloaded
  rw [leaveLesson_of_mem hl hi, advanceGen_link, abortFill_status, removeEntry_page, if_pos rfl]
  rfl

theorem retire_page (j : Fin 64) : (s.retire i).page j = if i = j then retiredRecord (s.page i) else s.page j := by
  rw [retire_eq]
  by_cases hholds : (s.page i).holds = 0
  · rw [if_pos hholds, freeRecord_page, unloaded_page hl hi, unloaded_page hl hi, if_pos rfl]
    split
    next => rw [retiredRecord, if_pos hholds]
    next => rfl
  · rw [if_neg hholds, State.modPage_page, unloaded_page hl hi, unloaded_page hl hi, if_pos rfl]
    split
    next => rw [retiredRecord, if_neg hholds]
    next => rfl

theorem retire_slot (k : Fin 24) (happart : ∀ k : Fin 24, (s.page i).still = some k → (s.page i).fill ≠ some k) :
    (s.retire i).slot k = retiredSlot s i k := by
  have hk := happart k
  rw [retire_eq, retiredSlot]
  by_cases hholds : (s.page i).holds = 0
  · rw [if_pos hholds, freeRecord_slot, unloaded_page hl hi, if_pos rfl, unloaded_slot hl hi k happart]
    by_cases hs : (s.page i).still = some k
    · simp [hs, hk hs, hholds, released_withRecord]
    · simp [hs]
  · rw [if_neg hholds, State.modPage_slot, unloaded_slot hl hi k happart, if_neg hholds]

theorem retire_freeBlocks (happart : ∀ k : Fin 24, (s.page i).still = some k → (s.page i).fill ≠ some k) :
    (s.retire i).freeBlocks = s.freeBlocks + retiredBlocks s i := by
  rw [retire_eq, retiredBlocks]
  by_cases hholds : (s.page i).holds = 0
  · rw [if_pos hholds, freeRecord_freeBlocks, unloaded_freeBlocks hl hi, unloaded_page hl hi, if_pos rfl,
      if_pos hholds, Nat.add_assoc]
    cases hs : (s.page i).still with
    | none => rfl
    | some k => simp [State.blocksReleased, unloaded_slot hl hi k happart, hs, happart k hs]
  · rw [if_neg hholds, State.modPage_freeBlocks, unloaded_freeBlocks hl hi, if_neg hholds, Nat.add_zero]

theorem retire_status : (s.retire i).link.status = s.statusAborting (s.page i).fill := by
  rw [← unloaded_status hl hi, retire_eq]
  split <;> simp

theorem retire_active : (s.retire i).active = s.active := by
  rw [retire_eq, unloaded, leaveLesson_of_mem hl hi]
  split <;> simp

theorem retire_views : (s.retire i).views = s.views := by
  rw [retire_eq, unloaded, leaveLesson_of_mem hl hi]
  split <;> simp

theorem retire_lessons :
    (s.retire i).lessons = (s.removeEntry l i ((s.lesson l).order.idxOf i)).lessons := by
  rw [retire_eq, unloaded, leaveLesson_of_mem hl hi]
  split <;> simp

/-- A retire takes the record out of its order and leaves the lesson's stored and lost flags. -/
theorem retire_lesson :
    ((s.retire i).lesson l).order = (s.lesson l).order.erase i
      ∧ ((s.retire i).lesson l).stored = (s.lesson l).stored
      ∧ ((s.retire i).lesson l).lost = (s.lesson l).lost := by
  have h : (s.retire i).lesson l = (s.removeEntry l i ((s.lesson l).order.idxOf i)).lesson l := by
    simp only [State.lesson, retire_lessons hl hi]
  rw [h, removeEntry_lesson_same]
  exact ⟨List.eraseIdx_idxOf_eq_erase i _, rfl, rfl⟩

end

end Sys2Proof.Machine.LessonLaws
end

section
/-! SUPPORT. LESSON.EVICT (R46, R47): the records of an order retired one after the other, and the checks before it. -/

namespace Sys2Proof.Machine.LessonLaws

/-! ### Retiring several records of one order -/

/-- Records of lesson l that can be retired one after the other: distinct, each in the order, each still and each
fill pending a slot of its own (R32, R50). -/
structure Retirable (s : State) (l : Fin 8) (is : List (Fin 64)) : Prop where
  nodup : is.Nodup
  lesson : ∀ i ∈ is, (s.page i).lesson = some l
  order : ∀ i ∈ is, i ∈ (s.lesson l).order
  apart : ∀ i ∈ is, ∀ k : Fin 24, (s.page i).still = some k → (s.page i).fill ≠ some k
  disjoint : ∀ i ∈ is, ∀ j ∈ is, i ≠ j → ∀ k : Fin 24, s.ownsSlot i k → ¬ s.ownsSlot j k

/-- t is s with the records `is` of lesson l retired: each record and its slots as one retire leaves them, the
blocks of all returned, and nothing else but the lesson changed. -/
structure RetiresTo (s : State) (l : Fin 8) (is : List (Fin 64)) (t : State) : Prop where
  page : ∀ j, t.page j = if j ∈ is then retiredRecord (s.page j) else s.page j
  owned : ∀ i ∈ is, ∀ k, s.ownsSlot i k → t.slot k = retiredSlot s i k
  unowned : ∀ k, (∀ i ∈ is, ¬ s.ownsSlot i k) → t.slot k = s.slot k
  freeBlocks : t.freeBlocks = s.freeBlocks + (is.map (retiredBlocks s)).sum
  status : t.link.status =
    if ∃ i ∈ is, (s.page i).fill.isSome then s.link.status ||| Flag.only .freezeAborted else s.link.status
  active : t.active = s.active
  views : t.views = s.views
  lessons : t.lessons = s.lessons.set l (t.lesson l)
  stored : (t.lesson l).stored = (s.lesson l).stored
  lost : (t.lesson l).lost = (s.lesson l).lost

theorem retiredSlot_of_not_owns {s : State} {i : Fin 64} {k : Fin 24} (h : ¬ s.ownsSlot i k) :
    retiredSlot s i k = s.slot k := by
  obtain ⟨hstill, hfill⟩ := not_or.mp h
  rw [retiredSlot, if_neg hfill, if_neg hstill]

theorem ownsSlot_congr {s t : State} {i : Fin 64} (h : t.page i = s.page i) (k : Fin 24) :
    t.ownsSlot i k ↔ s.ownsSlot i k := by rw [State.ownsSlot, State.ownsSlot, h]

theorem retiredSlot_congr {s t : State} {i : Fin 64} {k : Fin 24} (hpage : t.page i = s.page i)
    (hslot : t.slot k = s.slot k) : retiredSlot t i k = retiredSlot s i k := by
  rw [retiredSlot, retiredSlot, hpage, hslot]

theorem retiredBlocks_congr {s t : State} {i : Fin 64} (hpage : t.page i = s.page i)
    (hslot : ∀ k, s.ownsSlot i k → t.slot k = s.slot k) : retiredBlocks t i = retiredBlocks s i := by
  have hfill : t.blocksOf (s.page i).fill = s.blocksOf (s.page i).fill := by
    cases h : (s.page i).fill with
    | none => rfl
    | some k => exact congrArg Slot.blocks (hslot k (.inr h))
  have hstill : t.blocksReleased (s.page i).still = s.blocksReleased (s.page i).still := by
    cases h : (s.page i).still with
    | none => rfl
    | some k => rw [State.blocksReleased, State.blocksReleased, hslot k (.inl h)]
  rw [retiredBlocks, retiredBlocks, hpage, hfill, hstill]

theorem RetiresTo.nil (s : State) (l : Fin 8) : RetiresTo s l [] s where
  page _ := by simp
  owned _ h := absurd h List.not_mem_nil
  unowned _ _ := rfl
  freeBlocks := rfl
  status := by simp
  active := rfl
  views := rfl
  lessons := (Vector.set_getElem_self l.isLt).symm
  stored := rfl
  lost := rfl

section
variable {s : State} {l : Fin 8} {i : Fin 64} {is : List (Fin 64)} (h : Retirable s l (i :: is))
include h

theorem Retirable.head_lesson : (s.page i).lesson = some l := h.lesson i List.mem_cons_self

theorem Retirable.head_mem : i ∈ (s.lesson l).order := h.order i List.mem_cons_self

theorem Retirable.head_apart (k : Fin 24) : (s.page i).still = some k → (s.page i).fill ≠ some k :=
  h.apart i List.mem_cons_self k

theorem Retirable.head_ne {j : Fin 64} (hj : j ∈ is) : i ≠ j := by
  rintro rfl
  exact (List.nodup_cons.mp h.nodup).1 hj

/-- The head's retire leaves the other records … -/
theorem Retirable.retire_page_tail {j : Fin 64} (hj : j ∈ is) : (s.retire i).page j = s.page j := by
  rw [retire_page h.head_lesson h.head_mem, if_neg (h.head_ne hj)]

/-- … and their slots. -/
theorem Retirable.retire_slot_tail {j : Fin 64} (hj : j ∈ is) (k : Fin 24) (hk : s.ownsSlot j k) :
    (s.retire i).slot k = s.slot k := by
  rw [retire_slot h.head_lesson h.head_mem k h.head_apart]
  exact retiredSlot_of_not_owns
    (h.disjoint j (List.mem_cons_of_mem _ hj) i List.mem_cons_self (h.head_ne hj).symm k hk)

theorem Retirable.tail : Retirable (s.retire i) l is where
  nodup := (List.nodup_cons.mp h.nodup).2
  lesson j hj := by rw [h.retire_page_tail hj]; exact h.lesson j (List.mem_cons_of_mem _ hj)
  order j hj := by
    obtain ⟨horder, -, -⟩ := retire_lesson h.head_lesson h.head_mem
    rw [horder]
    exact (List.mem_erase_of_ne (h.head_ne hj).symm).mpr (h.order j (List.mem_cons_of_mem _ hj))
  apart j hj := by rw [h.retire_page_tail hj]; exact h.apart j (List.mem_cons_of_mem _ hj)
  disjoint j hj m hm hne k := by
    rw [ownsSlot_congr (h.retire_page_tail hj), ownsSlot_congr (h.retire_page_tail hm)]
    exact h.disjoint j (List.mem_cons_of_mem _ hj) m (List.mem_cons_of_mem _ hm) hne k

/-- The flag is set where a fill is aborted at the head or in the tail. -/
theorem Retirable.status_cons {t : State} (ht : RetiresTo (s.retire i) l is t) :
    t.link.status =
      if ∃ j ∈ i :: is, (s.page j).fill.isSome then s.link.status ||| Flag.only .freezeAborted
      else s.link.status := by
  have htail : (∃ j ∈ is, ((s.retire i).page j).fill.isSome) ↔ ∃ j ∈ is, (s.page j).fill.isSome :=
    exists_congr fun j => and_congr_right fun hj => by rw [h.retire_page_tail hj]
  rw [ht.status, retire_status h.head_lesson h.head_mem, State.statusAborting]
  simp only [htail, List.exists_mem_cons_iff]
  by_cases hhead : (s.page i).fill.isSome <;> simp [hhead, BitVec.or_assoc]

/-- A retire at the head, then those of the tail. -/
theorem RetiresTo.cons {t : State} (ht : RetiresTo (s.retire i) l is t) : RetiresTo s l (i :: is) t where
  page j := by
    rw [ht.page, retire_page h.head_lesson h.head_mem]
    by_cases hij : i = j
    · subst hij
      simp [(List.nodup_cons.mp h.nodup).1]
    · simp [hij, Ne.symm hij]
  owned j hj k hk := by
    rcases List.mem_cons.mp hj with rfl | hj
    · have hother : ∀ m ∈ is, ¬ (s.retire j).ownsSlot m k := fun m hm => by
        rw [ownsSlot_congr (h.retire_page_tail hm)]
        exact h.disjoint j List.mem_cons_self m (List.mem_cons_of_mem _ hm) (h.head_ne hm) k hk
      rw [ht.unowned k hother, retire_slot h.head_lesson h.head_mem k h.head_apart]
    · rw [ht.owned j hj k ((ownsSlot_congr (h.retire_page_tail hj) k).mpr hk)]
      exact retiredSlot_congr (h.retire_page_tail hj) (h.retire_slot_tail hj k hk)
  unowned k hk := by
    have hother : ∀ m ∈ is, ¬ (s.retire i).ownsSlot m k := fun m hm => by
      rw [ownsSlot_congr (h.retire_page_tail hm)]
      exact hk m (List.mem_cons_of_mem _ hm)
    rw [ht.unowned k hother, retire_slot h.head_lesson h.head_mem k h.head_apart]
    exact retiredSlot_of_not_owns (hk i List.mem_cons_self)
  freeBlocks := by
    have htail : is.map (retiredBlocks (s.retire i)) = is.map (retiredBlocks s) :=
      List.map_congr_left fun j hj => retiredBlocks_congr (h.retire_page_tail hj) (h.retire_slot_tail hj)
    rw [ht.freeBlocks, retire_freeBlocks h.head_lesson h.head_mem h.head_apart, htail, List.map_cons,
      List.sum_cons, Nat.add_assoc]
  status := h.status_cons ht
  active := ht.active.trans (retire_active h.head_lesson h.head_mem)
  views := ht.views.trans (retire_views h.head_lesson h.head_mem)
  lessons := by
    rw [ht.lessons, retire_lessons h.head_lesson h.head_mem, removeEntry_lessons]
    exact Vector.set_set _ _
  stored := by
    obtain ⟨-, hstored, -⟩ := retire_lesson h.head_lesson h.head_mem
    exact ht.stored.trans hstored
  lost := by
    obtain ⟨-, -, hlost⟩ := retire_lesson h.head_lesson h.head_mem
    exact ht.lost.trans hlost

end

theorem foldl_retire_retiresTo {s : State} {l : Fin 8} {is : List (Fin 64)} (h : Retirable s l is) :
    RetiresTo s l is (is.foldl State.retire s) := by
  induction is generalizing s with
  | nil => exact .nil s l
  | cons i rest ih => exact .cons h (ih h.tail)

/-! ### The records of an order, ascending -/

theorem mem_orderAscending {s : State} {l : Fin 8} {i : Fin 64} :
    i ∈ s.orderAscending l ↔ i ∈ (s.lesson l).order := by simp [State.orderAscending]

theorem orderAscending_perm {s : State} {l : Fin 8} (h : (s.lesson l).order.Nodup) :
    (s.orderAscending l).Perm (s.lesson l).order :=
  (List.perm_ext_iff_of_nodup ((List.nodup_finRange 64).filter _) h).mpr fun _ => mem_orderAscending

theorem find?_orderAscending_none {s : State} {l : Fin 8} {p : Fin 64 → Bool}
    (h : ∀ i ∈ (s.lesson l).order, p i = false) : (s.orderAscending l).find? p = none :=
  List.find?_eq_none.mpr fun i hi => by simp [h i (mem_orderAscending.mp hi)]

/-- The record found is the lowest one of the order that the test accepts. -/
theorem find?_orderAscending_lowest {s : State} {l : Fin 8} {p : Fin 64 → Bool} {i : Fin 64}
    (hi : i ∈ (s.lesson l).order) (hp : p i = true) (hlow : ∀ j ∈ (s.lesson l).order, j < i → p j = false) :
    (s.orderAscending l).find? p = some i := by
  unfold State.orderAscending
  rw [List.find?_filter, List.find?_eq_some_iff_getElem]
  refine ⟨by simp [hi, hp], i.val, by simp, by simp, fun j hj => ?_⟩
  have hlt : j < 64 := by omega
  have hbelow := hlow ⟨j, hlt⟩
  simp only [List.getElem_finRange, Fin.cast_mk, List.contains_eq_mem, decide_eq_true_eq, Bool.not_eq_eq_eq_not,
    Bool.not_true, decide_eq_false_iff_not, not_and, Bool.not_eq_true]
  exact fun hmem => hbelow hmem hj

/-! ### The eviction (R47) -/

theorem retirable_of_orderAgrees {s : State} {l : Fin 8} (h : s.orderAgrees l) :
    Retirable s l (s.orderAscending l) := by
  obtain ⟨-, hrecords, hslots⟩ := h
  constructor
  case nodup => exact (List.nodup_finRange 64).filter _
  all_goals simp only [mem_orderAscending]
  case lesson =>
    intro i hi
    obtain ⟨-, -, hl⟩ := hrecords i hi
    exact hl
  case order => exact fun i hi => hi
  case apart =>
    intro i hi
    obtain ⟨hapart, -⟩ := hslots i hi
    exact hapart
  case disjoint =>
    intro i hi
    obtain ⟨-, hdisjoint⟩ := hslots i hi
    exact hdisjoint

/-- The same records in another order are retired to the same state. -/
theorem RetiresTo.perm {s t : State} {l : Fin 8} {is js : List (Fin 64)} (hp : is.Perm js)
    (h : RetiresTo s l is t) : RetiresTo s l js t where
  page j := by rw [h.page]; simp only [hp.mem_iff]
  owned i hi := h.owned i (hp.mem_iff.mpr hi)
  unowned k hk := h.unowned k fun i hi => hk i (hp.mem_iff.mp hi)
  freeBlocks := by rw [h.freeBlocks, (hp.map _).sum_eq]
  status := by rw [h.status]; simp only [hp.mem_iff]
  active := h.active
  views := h.views
  lessons := h.lessons
  stored := h.stored
  lost := h.lost

theorem orderAscending_retiresTo {s : State} {l : Fin 8} (h : s.orderAgrees l) :
    RetiresTo s l (s.lesson l).order ((s.orderAscending l).foldl State.retire s) :=
  (foldl_retire_retiresTo (retirable_of_orderAgrees h)).perm (orderAscending_perm h.1)

theorem evictCounts_eq {s : State} {l : Fin 8} (h : (s.lesson l).order.Nodup) :
    s.evictCounts l =
      .evicted ((s.lesson l).order.countP fun i => (s.page i).holds = 0)
        ((s.lesson l).order.countP fun i => (s.page i).holds ≠ 0) := by
  have hp := orderAscending_perm h
  have hfree : ((s.orderAscending l).filter fun i => (s.page i).holds == 0).length =
      (s.lesson l).order.countP fun i => (s.page i).holds = 0 := by
    rw [← List.countP_eq_length_filter, hp.countP_eq]
    simp only [Bool.beq_eq_decide_eq]
  have htotal := List.length_eq_countP_add_countP (fun i => decide ((s.page i).holds = 0)) (l := (s.lesson l).order)
  simp only [decide_eq_true_eq, ← ne_eq] at htotal
  rw [State.evictCounts, hfree, hp.length_eq, htotal, Nat.add_sub_cancel_left]

theorem evict_lessons (s : State) (l : Fin 8) :
    (s.evict l).lessons =
      ((s.orderAscending l).foldl State.retire s).lessons.set l
        (Lesson.absent (((s.orderAscending l).foldl State.retire s).lesson l).stored
          (((s.orderAscending l).foldl State.retire s).lesson l).lost) := rfl

theorem evict_active (s : State) (l : Fin 8) :
    (s.evict l).active =
      if ((s.orderAscending l).foldl State.retire s).active = some l then none
      else ((s.orderAscending l).foldl State.retire s).active := rfl

/-- A change of the tables that leaves the views is written out by the fields it reaches. -/
theorem eq_of_tableChange {s t : State} (h : TableChange s t) (hviews : t.views = s.views) :
    t = { s with
      records := t.records, lessons := t.lessons, active := t.active, slots := t.slots,
      freeBlocks := t.freeBlocks, link := t.link } := by
  obtain ⟨hsin, hpfd, hmatchOn, htolerance, hdte, hports, hareas, hdescs, hop, hlens, hpending, -⟩ := h
  rw [← hsin, ← hpfd, ← hmatchOn, ← htolerance, ← hdte, ← hviews, ← hports, ← hareas, ← hdescs, ← hop, ← hlens,
    ← hpending]

/-! ### The checks (R46) -/

theorem exec_lessonEvict (lvl : Level) (n : Nat) (form : EvictForm) (s : State) :
    exec (.lessonEvict lvl n form) s = conclude (lessonEvictBlock lvl n form s) := rfl

theorem exec_lessonEvict_refused {s : State} {lvl : Level} {n : Nat} {form : EvictForm} {c : ResultCode}
    (h : firstFailure ([(badLesson n, .range), (form == .other, .argument)]
      ++ s.lessonChecks lvl (s.lesson (lessonIdx n)).lock n) = some c) :
    exec (.lessonEvict lvl n form) s = answers s c .empty := by
  simp only [exec_lessonEvict, lessonEvictBlock, h, conclude_refuse]

theorem firstFailure_evictChecks {s : State} {lvl : Level} {l : Fin 8} {form : EvictForm} (hform : form ≠ .other) :
    firstFailure ([(badLesson (l.val + 1), .range), (form == .other, .argument)]
      ++ s.lessonChecks lvl (s.lesson (lessonIdx (l.val + 1))).lock (l.val + 1)) =
      s.lessonRefusal lvl (l.val + 1) := by
  rw [firstFailure_append, firstFailure_lessonChecks_eq_lessonRefusal]
  simp [firstFailure_cons, hform]

section
variable {s : State} {lvl : Level} {l : Fin 8} {form : EvictForm} (hform : form ≠ .other)
  (hst : (s.lesson l).st = .opened) (hlock : (s.lesson l).lock.rank ≤ lvl.rank)
include hform hst hlock

theorem firstFailure_evictChecks_none :
    firstFailure ([(badLesson (l.val + 1), .range), (form == .other, .argument)]
      ++ s.lessonChecks lvl (s.lesson l).lock (l.val + 1)) = none := by
  have h := firstFailure_evictChecks (s := s) (lvl := lvl) (l := l) hform
  rwa [lessonIdx_succ, lessonRefusal_eq_none hst hlock] at h

theorem exec_lessonEvict_locked {i : Fin 64}
    (h : (s.orderAscending l).find? (fun i => !lvl.passes (s.page i).setup.lock) = some i) :
    exec (.lessonEvict lvl (l.val + 1) form) s = answers s .locked (.names i) := by
  simp only [exec_lessonEvict, lessonEvictBlock, lessonIdx_succ, firstFailure_evictChecks_none hform hst hlock, h]
  rfl

section
variable (hpages : ∀ i ∈ (s.lesson l).order, (s.page i).setup.lock.rank ≤ lvl.rank)
include hpages

omit hform hst hlock in
theorem find?_locked_none :
    (s.orderAscending l).find? (fun i => !lvl.passes (s.page i).setup.lock) = none :=
  find?_orderAscending_none fun i hi => by simp [hpages i hi]

theorem exec_lessonEvict_dirty (hdirty : (s.lesson l).dirty = true) (hkeep : form ≠ .discard) :
    exec (.lessonEvict lvl (l.val + 1) form) s = answers s .dirty .empty := by
  have h : ((s.lesson l).dirty && form != .discard) = true := by simp [hdirty, hkeep]
  simp only [exec_lessonEvict, lessonEvictBlock, lessonIdx_succ, firstFailure_evictChecks_none hform hst hlock,
    find?_locked_none hpages, h, if_true, conclude_refuse]

variable (hclean : (s.lesson l).dirty = true → form = .discard)
include hclean

theorem exec_lessonEvict_referenced {i : Fin 64}
    (h : (s.orderAscending l).find? (fun i => (s.page i).referenced) = some i) :
    exec (.lessonEvict lvl (l.val + 1) form) s = answers s .referenced (.names i) := by
  have hpass : ¬ ((s.lesson l).dirty && form != .discard) = true := by simpa using hclean
  simp only [exec_lessonEvict, lessonEvictBlock, lessonIdx_succ, firstFailure_evictChecks_none hform hst hlock,
    find?_locked_none hpages, if_neg hpass, h]
  rfl

theorem exec_lessonEvict_accepted
    (h : (s.orderAscending l).find? (fun i => (s.page i).referenced) = none) :
    exec (.lessonEvict lvl (l.val + 1) form) s = answers (s.evict l) .ok (s.evictCounts l) := by
  have hpass : ¬ ((s.lesson l).dirty && form != .discard) = true := by simpa using hclean
  simp only [exec_lessonEvict, lessonEvictBlock, lessonIdx_succ, firstFailure_evictChecks_none hform hst hlock,
    find?_locked_none hpages, if_neg hpass, h, conclude_doneWith]

end

end

/-! ### The statements -/

theorem lessonEvictUnloads : Says.LessonEvictUnloads := by
  intro s lvl l form hform hst hlock hclean hagrees hpages
  have hlocks : ∀ i ∈ (s.lesson l).order, (s.page i).setup.lock.rank ≤ lvl.rank := fun i hi => (hpages i hi).1
  have hfree : (s.orderAscending l).find? (fun i => (s.page i).referenced) = none :=
    find?_orderAscending_none fun i hi => by
      obtain ⟨-, hsel, hcyc⟩ := hpages i hi
      simp [Record.referenced, hsel, hcyc]
  obtain ⟨hnodup, -, hslots⟩ := id hagrees
  have ht := orderAscending_retiresTo hagrees
  have hchange := s.evict_change l
  refine ⟨s.evict l, ?answer, ?lessons, ?active, ?otherPages, ?records, ?otherSlots, ?blocks, ?link, ?frame⟩
  case answer =>
    rw [exec_lessonEvict_accepted hform hst hlock hlocks hclean hfree, evictCounts_eq hnodup]
  case lessons =>
    rw [evict_lessons, ht.stored, ht.lost, ht.lessons]
    exact Vector.set_set _ _
  case active => rw [evict_active, ht.active]
  case otherPages =>
    intro i hi
    exact (ht.page i).trans (if_neg hi)
  case records =>
    intro i hi
    refine ⟨(ht.page i).trans (if_pos hi), fun k => ⟨fun hfill => ?_, fun hstill => ?_⟩⟩
    · refine (ht.owned i hi k (.inr hfill)).trans ?_
      rw [retiredSlot, if_pos hfill]
    · obtain ⟨hapart, -⟩ := hslots i hi
      refine (ht.owned i hi k (.inl hstill)).trans ?_
      rw [retiredSlot, if_neg (hapart k hstill), if_pos hstill]
  case otherSlots => exact ht.unowned
  case blocks => exact ht.freeBlocks
  case link =>
    rw [hchange.link]
    exact congrArg (fun f => { s.link with status := f }) ht.status
  case frame => exact eq_of_tableChange hchange ht.views

theorem lessonEvictChecks : Says.LessonEvictChecks := by
  intro s lvl
  refine ⟨fun n form hn => ?number, fun l => ⟨?payload, fun form hform => ⟨fun hst => ?busy, fun hst => ?state,
    fun hst hlock => ?locked, fun i hi hst hlock hpage hlow => ?record⟩⟩⟩
  case number => exact exec_lessonEvict_refused (by simp [badLesson_of_outside hn])
  case payload => exact exec_lessonEvict_refused (by simp [firstFailure_cons])
  case record =>
    apply exec_lessonEvict_locked hform hst hlock
    exact find?_orderAscending_lowest hi (by simp [hpage]) fun j hj hji => by simp [hlow j hj hji]
  all_goals
    apply exec_lessonEvict_refused
    rw [firstFailure_evictChecks hform, ← firstFailure_lessonChecks_eq_lessonRefusal, firstFailure_lessonChecks]
  case busy => simp [hst]
  case state => rcases hst with hst | hst <;> simp [hst]
  case locked => simp [hst, hlock]

theorem lessonEvictRefusals : Says.LessonEvictRefusals := by
  intro s lvl l hst hlock hpages
  refine ⟨fun hdirty => ?dirty, fun i hi href hlow => ?referenced⟩
  case dirty => exact exec_lessonEvict_dirty (by decide) hst hlock hpages hdirty (by decide)
  case referenced =>
    apply exec_lessonEvict_referenced (by decide) hst hlock hpages fun _ => rfl
    refine find?_orderAscending_lowest hi (by simpa [Record.referenced] using href) fun j hj hji => ?_
    obtain ⟨hsel, hcyc⟩ := hlow j hj hji
    simp [Record.referenced, hsel, hcyc]

/-- Settles O18, by the retires of the order's records one after the other, each leaving the records and slots of
the others, and by the checks before them in the order of R46. -/
theorem lessonEviction : Obligations.LessonEviction :=
  ⟨lessonEvictUnloads, lessonEvictChecks, lessonEvictRefusals⟩

end Sys2Proof.Machine.LessonLaws
end

section
/-! SUPPORT. The row of the table that a dispatched telegram is, and invariants over one step: what holds of every
command but DISPATCH holds of DISPATCH too, which runs one of them (R180). -/

namespace Sys2Proof.Machine

/-- The row of the table that a telegram with this command is executed as (R180). -/
def Command.row (c : Command) (t : Telegram) : Instr :=
  let f := Config.forms
  match c with
  | .pageNew => .pageNew t.level (t.form? f.placement)
  | .pageSave => .pageSave t.level ((t.form? f.save).getD ⟨none, none, none⟩)
  | .pageCopy => .pageCopy t.level t.page (t.form? f.placement)
  | .pageSet => .pageSet t.level t.page (f.set t.payload)
  | .pageZone => .pageZone t.level t.members (f.zone t.payload)
  | .pageMarks => .pageMarks t.level t.page (f.marks t.payload)
  | .pageMarkclear => .pageMarkclear t.level t.members (t.payload.getD 0 0)
  | .pageSign => .pageSign t.level t.page (f.sign t.payload)
  | .pageLock => .pageLock t.level t.members (byteAt t.payload 0)
  | .pageGroup => .pageGroup t.level t.page (t.payload.getD 0 0)
  | .pageRetire => .pageRetire t.level t.members
  | .pageRead => .pageRead t.page
  | .stillFreeze => .stillFreeze t.level t.page (f.freeze t.payload)
  | .stillDrop => .stillDrop t.level t.members
  | .stillRead => .stillRead
  | .lessonActivate => .lessonActivate t.lesson?
  | .lessonOpen => .lessonOpen t.level t.number ((t.form? f.lessonOpen).getD ⟨none, none⟩)
  | .lessonSet => .lessonSet t.level t.number (f.lessonSet t.payload)
  | .lessonPlace => .lessonPlace t.level t.page (f.placement t.payload)
  | .lessonMove => .lessonMove t.level t.number (f.move t.payload).1 (f.move t.payload).2
  | .lessonRemove => .lessonRemove t.level t.number (f.remove t.payload)
  | .lessonStep => .lessonStep (f.step t.payload)
  | .lessonRead => .lessonRead t.number
  | .lessonEvict => .lessonEvict t.level t.number ((t.form? f.evict).getD .keep)
  | .lessonCommit => .lessonCommit t.level t.number
  | .lessonLoad => .lessonLoad t.level t.number
  | .lessonAbandon => .lessonAbandon t.level t.number
  | .lessonErase => .lessonErase t.level t.number
  | .findSetup => .findSetup t.level (f.find t.payload)
  | .findRead => .findRead
  | .findClear => .findClear
  | .matchSetup => .matchSetup t.level (f.matcher t.payload)
  | .matchTry => .matchTry t.lesson? (t.form? f.probe)
  | .detailTable => .detailTable t.level (f.table t.payload)
  | .detailLight => .detailLight t.level (f.light t.payload)
  | .detailRead => if targetKind t.kind = some .views then .detailReadBandSet t.value0 else .detailReadTables
  | .lensSetup => .lensSetup t.level (f.lens t.payload)
  | .bridgeWrite => .bridgeWrite t.level (f.bridgeWrite t.payload)
  | .bridgeRead => .bridgeRead t.level (if t.payload.length = 3 then some (f.bridgeRead t.payload) else none)
  | .bridgeResult => .bridgeResult
  | .viewSelect => .viewSelect t.value0 (f.select t.payload)
  | .viewFallback => .viewFallback t.level t.value0 (f.fallback t.payload)
  | .viewZoom => .viewZoom t.value0 (f.zoom t.payload)
  | .viewPan => .viewPan t.value0 (f.pan t.payload).1 (f.pan t.payload).2
  | .viewRoute => .viewRoute t.level t.value0 (f.route t.payload)
  | .viewMode => .viewMode t.value0 (f.mode t.payload)
  | .viewTake => .viewTake t.value0
  | .viewRead => .viewRead t.value0
  | .portStart => .portStart t.level t.value0 (t.form? f.rate)
  | .portStop => .portStop t.level t.value0
  | .portReset => .portReset t.level t.value0
  | .portRead => .portRead t.value0
  | .cycleWrite => .cycleWrite t.value0 (f.cycle t.payload)
  | .cycleLength => .cycleLength t.value0 (f.cycleLength t.payload)
  | .cycleClear => .cycleClear t.value0
  | .devCeiling => .devCeiling (byteAt t.payload 0)
  | .devMask => .devMask t.bits24
  | .devStatus => .devStatus t.mode
  | .devAck => .devAck t.bits24
  | .devIdent => .devIdent
  | .devReset => .devReset t.level

theorem Command.row_ne_dispatch (c : Command) (t : Telegram) : c.row t ≠ .dispatch := by
  cases c
  case detailRead => unfold Command.row; dsimp only; split <;> exact Instr.noConfusion
  all_goals exact Instr.noConfusion

/-- What the owning block gives to a dispatched telegram is what its row gives. -/
theorem Command.exec_row {c : Command} {t : Telegram} {s : State} {r : Result} (h : c.runBlock t s = some r) :
    exec (c.row t) s = conclude r := by
  cases c
  case devReset => cases h
  case detailRead =>
    rw [← Option.some.inj h]
    unfold Command.row
    dsimp only
    split <;> rfl
  all_goals exact congrArg conclude (Option.some.inj h)

/-- Every command but DEV.RESET has an owning block. -/
theorem Command.eq_devReset_of_runBlock {c : Command} {t : Telegram} {s : State} (h : c.runBlock t s = none) :
    c = .devReset := by
  cases c
  case devReset => rfl
  all_goals cases h

/-! ### An invariant of every command is an invariant of the step -/

/-- A property that the Control Link and the commands that wait do not bear on. -/
structure LinkFree (P : State → Prop) : Prop where
  link : ∀ (s : State) (x : Link), P s → P { s with link := x }
  pending : ∀ (s : State) (q : List Instr), P s → P { s with pending := q }

/-- A property is kept by every command but DISPATCH. -/
def KeptByCommands (P : State → Prop) : Prop :=
  ∀ (c : Instr) (s : State), c ≠ .dispatch → P s → ∃ t, exec c s = .next t ∧ P t

section
variable {P : State → Prop} (hfree : LinkFree P) (hkept : KeptByCommands P)
include hfree hkept

theorem Command.run_keeps (c : Command) (t : Telegram) {s : State} (hs : P s) : P (c.run t s).1 := by
  unfold Command.run
  cases h : c.runBlock t s with
  | some r =>
    obtain ⟨u, hu, hP⟩ := hkept (c.row t) s (c.row_ne_dispatch t) hs
    obtain rfl : r.1.withAnswer r.2 = u := Host.Outcome.next.inj ((Command.exec_row h).symm.trans hu)
    exact hfree.link (r.1.withAnswer r.2) r.1.link hP
  | none =>
    obtain ⟨u, hu, hP⟩ := hkept (.devReset .admin) s Instr.noConfusion hs
    obtain rfl : s.softReset = u := Host.Outcome.next.inj hu
    dsimp only
    split
    · exact hP
    · exact hs

theorem State.runTelegram_keeps (t : Telegram) {s : State} (hs : P s) : P (s.runTelegram t).1 := by
  unfold State.runTelegram
  split
  · exact hs
  · split
    · exact hs
    · exact Command.run_keeps hfree hkept _ t hs

omit hkept in
theorem State.queueReply_keeps (t : Telegram) (a : Answer) {s : State} (hs : P s) : P (s.queueReply t a) := by
  unfold State.queueReply
  split
  · dsimp only
    split
    · exact hfree.link _ _ (hfree.link s _ hs)
    · exact hfree.link s _ hs
  · exact hs

theorem State.dispatch_keeps {s : State} (hs : P s) : P s.dispatch := by
  unfold State.dispatch
  split
  · exact hs
  · split
    · next t _ _ _ =>
      have hrun := State.runTelegram_keeps hfree hkept t (hfree.link s s.link.takeHead hs)
      unfold State.conclusion
      split
      · exact hfree.link _ _ (State.queueReply_keeps hfree t _ hrun)
      · exact hrun
    · exact hs

theorem exec_keeps (c : Instr) {s t : State} (hs : P s) (h : exec c s = .next t) : P t := by
  by_cases hc : c = .dispatch
  · subst hc
    obtain rfl : s.dispatch = t := Host.Outcome.next.inj h
    exact State.dispatch_keeps hfree hkept hs
  · obtain ⟨u, hu, hP⟩ := hkept c s hc hs
    obtain rfl : u = t := Host.Outcome.next.inj (hu.symm.trans h)
    exact hP

/-- What every command but DISPATCH keeps, and the link does not bear on, every step keeps. -/
theorem step_keeps {s t : State} (hs : P s) (h : step s = .next t) : P t := by
  unfold step at h
  split at h
  · exact Host.Outcome.next.inj h ▸ hs
  · exact exec_keeps hfree hkept _ (hfree.pending s _ hs) h

end

end Sys2Proof.Machine
end

section
/-! SUPPORT. The account of still memory (R48, R49): what each shared operation does to the free-block count and the
blocks of the slots. A lemma `State.Accounted.op` says that the operation keeps the account. -/

namespace Sys2Proof.Machine

/-- The blocks of all slots (R48). -/
def State.heldBlocks (s : State) : Nat := ((List.finRange 24).map fun k => (s.slot k).blocks).sum

theorem State.heldBlocks_modSlot (s : State) (k : Fin 24) (f : Slot → Slot) :
    (s.modSlot k f).heldBlocks + (s.slot k).blocks = s.heldBlocks + (f (s.slot k)).blocks := by
  have hrest : ∑ j ∈ Finset.univ.erase k, ((s.modSlot k f).slot j).blocks =
      ∑ j ∈ Finset.univ.erase k, (s.slot j).blocks :=
    Finset.sum_congr rfl fun j hj => by rw [s.modSlot_slot_ne f (Finset.ne_of_mem_erase hj).symm]
  have hnew := Finset.add_sum_erase Finset.univ (fun j => ((s.modSlot k f).slot j).blocks) (Finset.mem_univ k)
  have hold := Finset.add_sum_erase Finset.univ (fun j => (s.slot j).blocks) (Finset.mem_univ k)
  rw [State.modSlot_slot_same, hrest] at hnew
  simp only [State.heldBlocks, ← Fin.sum_univ_def]
  omega

/-- The account of still memory, part by part (R48, R50, R155). -/
structure State.Accounted (s : State) : Prop where
  sum : s.freeBlocks + s.heldBlocks = 64
  empty : ∀ k : Fin 24, (s.slot k).st = .free → (s.slot k).blocks = 0
  headers : ∀ (l : Fin 8) (v : HeaderVals), s.descs[l].header = some v → (v.dir.map dirBlocks).sum = v.blocks

theorem State.accounted_iff (s : State) : s.Accounted ↔ s.blocksAddUp :=
  ⟨fun h => ⟨h.sum, h.empty, h.headers⟩, fun ⟨hsum, hempty, hheaders⟩ => ⟨hsum, hempty, hheaders⟩⟩

/-- The account depends on the slots, the free-block count and the descriptors alone. -/
theorem State.Accounted.congr {s t : State} (h : s.Accounted) (hslots : t.slots = s.slots)
    (hfree : t.freeBlocks = s.freeBlocks) (hdescs : t.descs = s.descs) : t.Accounted where
  sum := by simpa only [State.heldBlocks, State.slot, hslots, hfree] using h.sum
  empty := by simpa only [State.slot, hslots] using h.empty
  headers := by simpa only [hdescs] using h.headers

/-- A slot is rewritten with the blocks it takes or returns accounted for. -/
theorem State.Accounted.rewriteSlot {s t : State} (h : s.Accounted) (k : Fin 24) (f : Slot → Slot)
    (hslots : t.slots = (s.modSlot k f).slots) (hdescs : t.descs = s.descs)
    (hfree : t.freeBlocks + (f (s.slot k)).blocks = s.freeBlocks + (s.slot k).blocks)
    (hst : (f (s.slot k)).st = .free → (f (s.slot k)).blocks = 0) : t.Accounted := by
  have hslot : ∀ j, t.slot j = (s.modSlot k f).slot j := fun j => by simp only [State.slot, hslots]
  refine ⟨?sum, fun j => ?empty, ?headers⟩
  case sum =>
    have hheld : t.heldBlocks = (s.modSlot k f).heldBlocks := by simp only [State.heldBlocks, hslot]
    have hmoved := s.heldBlocks_modSlot k f
    have hsum := h.sum
    omega
  case empty =>
    rw [hslot, State.modSlot_slot]
    split
    · exact hst
    · exact h.empty j
  case headers => rw [hdescs]; exact h.headers

/-! ### Updates of other fields, and of a slot's other fields -/

section
variable {s : State} (h : s.Accounted)
include h

theorem State.Accounted.modPage (i : Fin 64) (f : Record → Record) : (s.modPage i f).Accounted :=
  h.congr rfl rfl rfl
theorem State.Accounted.modLesson (l : Fin 8) (f : Lesson → Lesson) : (s.modLesson l f).Accounted :=
  h.congr rfl rfl rfl
theorem State.Accounted.modView (v : ViewId) (f : ViewCtx → ViewCtx) : (s.modView v f).Accounted :=
  h.congr rfl rfl rfl
theorem State.Accounted.modStaged (v : ViewId) (f : Half → Half) : (s.modStaged v f).Accounted :=
  h.congr rfl rfl rfl
theorem State.Accounted.modPort (v : ViewId) (f : PortCtx → PortCtx) : (s.modPort v f).Accounted :=
  h.congr rfl rfl rfl
theorem State.Accounted.modLens (f : Lens → Lens) : (s.modLens f).Accounted := h.congr rfl rfl rfl
theorem State.Accounted.modFinder (f : Finder → Finder) : (s.modFinder f).Accounted := h.congr rfl rfl rfl
theorem State.Accounted.modIntake (f : Intake → Intake) : (s.modIntake f).Accounted := h.congr rfl rfl rfl
theorem State.Accounted.modDetail (f : Detail → Detail) : (s.modDetail f).Accounted := h.congr rfl rfl rfl
theorem State.Accounted.modLink (f : Link → Link) : (s.modLink f).Accounted := h.congr rfl rfl rfl
theorem State.Accounted.modArea (l : Fin 8) (f : Area → Area) : (s.modArea l f).Accounted :=
  h.congr rfl rfl rfl
theorem State.Accounted.setFlag (f : Flag) : (s.setFlag f).Accounted := h.congr rfl rfl rfl
theorem State.Accounted.clearFlags (m : FlagSet) : (s.clearFlags m).Accounted := h.congr rfl rfl rfl
theorem State.Accounted.setOp (op : Option FlashOp) : ({ s with op := op } : State).Accounted :=
  h.congr rfl rfl rfl

theorem State.Accounted.setActive (l : Option (Fin 8)) : ({ s with active := l } : State).Accounted :=
  h.congr rfl rfl rfl
theorem State.Accounted.setMatcher (on : Bool) (n : Nat) :
    ({ s with matchOn := on, tolerance := n } : State).Accounted := h.congr rfl rfl rfl

theorem State.Accounted.bus {t : State} (hbus : BusChange s t) : t.Accounted := by
  rw [hbus.eq]
  exact h.congr rfl rfl rfl

/-- A slot keeps its blocks, and does not become FREE with any. -/
theorem State.Accounted.modSlot (k : Fin 24) {f : Slot → Slot} (hblocks : ∀ x, (f x).blocks = x.blocks)
    (hst : ∀ x, (f x).st = .free → x.st = .free) : (s.modSlot k f).Accounted := by
  refine h.rewriteSlot k f rfl rfl ?_ fun hk => ?_
  · rw [hblocks]
    rfl
  · rw [hblocks]
    exact h.empty k (hst _ hk)

/-- A descriptor with a sound header's account, or with none, is written. -/
theorem State.Accounted.setDesc (l : Fin 8) {d : AreaDesc}
    (hd : ∀ v, d.header = some v → (v.dir.map dirBlocks).sum = v.blocks) : (s.setDesc l d).Accounted := by
  refine ⟨h.sum, h.empty, fun m v => ?_⟩
  simp only [State.setDesc, Fin.getElem_fin, Vector.getElem_set]
  split
  · exact hd v
  · exact h.headers m v

/-! ### Slots freed, released, completed and taken (R49, R52, R57, R59) -/

theorem State.Accounted.freeSlot (k : Fin 24) : (s.freeSlot k).Accounted :=
  h.rewriteSlot k Slot.freed rfl rfl rfl fun _ => rfl

theorem State.Accounted.releaseSlot (k : Fin 24) : (s.releaseSlot k).Accounted := by
  unfold State.releaseSlot
  split
  · exact h.freeSlot k
  · exact h.modSlot k (fun _ => rfl) fun _ => SlotState.noConfusion

theorem State.Accounted.releaseStill (i : Fin 64) : (s.releaseStill i).Accounted := by
  unfold State.releaseStill
  split
  · exact (h.modPage i _).releaseSlot _
  · exact h

theorem State.Accounted.abortFill (i : Fin 64) : (s.abortFill i).Accounted := by
  unfold State.abortFill
  split
  · exact ((h.modPage i _).freeSlot _).setFlag _
  · exact h

theorem State.Accounted.abortSlot (k : Fin 24) : (s.abortSlot k).Accounted := by
  unfold State.abortSlot
  split
  · exact h.abortFill _
  · exact h

theorem State.Accounted.abortFills (src : FillSource) : (s.abortFills src).Accounted :=
  List.foldlRecOn _ _ h fun _ ht k _ => State.Accounted.abortSlot ht k

theorem State.Accounted.touch (i : Fin 64) : (s.touch i).Accounted := by
  unfold State.touch
  split
  · exact h
  · dsimp only
    split
    · exact (h.modPage i _).modLesson _ _
    · exact h.modPage i _

theorem State.Accounted.completeFill (k : Fin 24) (p : Picture) (l : Fin 16) :
    (s.completeFill k p l).Accounted := by
  unfold State.completeFill
  split
  next r _ =>
    have hready := (h.releaseStill r.idx).modSlot k
      (f := fun x => { x with st := .ready, source := none, phase := none, capture := none, picture := some p,
                              light := l }) (fun _ => rfl) fun _ => SlotState.noConfusion
    exact ((hready.modPage _ _).touch _).setFlag _
  next => exact h

/-- A FREE slot becomes FILLING with blocks that are free. -/
theorem State.Accounted.startFill {k : Fin 24} (i : Fin 64) (src : FillSource) (ph : Option FillPhase)
    {f : Slot → Slot} (hk : (s.slot k).st = .free) (hroom : (f (s.slot k)).blocks ≤ s.freeBlocks) :
    (s.startFill k i src ph f).Accounted := by
  refine (h.rewriteSlot k (fun x =>
    { f x with st := .filling, holds := 0, record := some (s.handleOf i), source := some src,
               phase := ph, capture := none, picture := none }) rfl rfl ?_ ?_)
  · show s.freeBlocks - (f (s.slot k)).blocks + (f (s.slot k)).blocks = s.freeBlocks + (s.slot k).blocks
    rw [h.empty k hk]
    omega
  · exact SlotState.noConfusion

/-! ### Fills captured, returned to QUEUED and completed (R58, R59, R66) -/

theorem State.Accounted.captureFills (src : FillSource) : (s.captureFills src).Accounted :=
  List.foldlRecOn _ _ h fun _ ht k _ => State.Accounted.modSlot ht k (fun _ => rfl) fun _ hx => hx

theorem State.Accounted.requeueFills : s.requeueFills.Accounted :=
  List.foldlRecOn _ _ h fun _ ht k _ => State.Accounted.modSlot ht k (fun _ => rfl) fun _ hx => hx

theorem State.Accounted.completePageFills (n : Nat) (l : Fin 16) : (s.completePageFills n l).Accounted :=
  List.foldlRecOn _ _ h fun _ ht k _ => State.Accounted.completeFill ht k _ _

theorem State.Accounted.completeProjFills (p : Picture) : (s.completeProjFills p).Accounted :=
  List.foldlRecOn _ _ h fun _ ht k _ => State.Accounted.completeFill ht k _ _

/-! ### Records, holds, orders and retiring (R1, R24 to R27, R32, R51) -/

theorem State.Accounted.freeRecord (i : Fin 64) : (s.freeRecord i).Accounted := (h.releaseStill i).modPage i _

theorem State.Accounted.unholdSlot (k : Fin 24) : (s.unholdSlot k).Accounted := by
  have hlow := h.modSlot k (f := fun x => { x with holds := x.holds - 1 }) (fun _ => rfl) fun _ hx => hx
  unfold State.unholdSlot
  dsimp only
  split
  · exact hlow.freeSlot k
  · exact hlow

theorem State.Accounted.unholdRecord (i : Fin 64) : (s.unholdRecord i).Accounted := by
  unfold State.unholdRecord
  dsimp only
  split
  · exact ((h.modPage i _).freeRecord i).setFlag _
  · exact h.modPage i _

theorem State.Accounted.takeHolds (src : Source) : (s.takeHolds src).Accounted := by
  have hslot : ∀ {t : State} (_ : t.Accounted) (k : Fin 24), (t.holdSlot k).Accounted :=
    fun ht k => ht.modSlot k (fun _ => rfl) fun _ hx => hx
  unfold State.takeHolds
  cases src.record <;> cases src.slot
  · exact h
  · exact hslot h _
  · exact h.modPage _ _
  · exact hslot (h.modPage _ _) _

theorem State.Accounted.releaseHolds (src : Source) : (s.releaseHolds src).Accounted := by
  unfold State.releaseHolds
  cases src.record <;> cases src.slot
  · exact h
  · exact h.unholdSlot _
  · exact h.unholdRecord _
  · exact (h.unholdSlot _).unholdRecord _

theorem State.Accounted.leaveLesson (i : Fin 64) : (s.leaveLesson i).Accounted := by
  unfold State.leaveLesson
  split
  · split
    · exact (h.modLesson _ _).modPage i _
    · exact h.modPage i _
  · exact h

theorem State.Accounted.advanceGen (i : Fin 64) : (s.advanceGen i).Accounted := by
  unfold State.advanceGen
  dsimp only
  split
  · exact (h.modPage i _).modSlot _ (fun _ => rfl) fun _ hx => hx
  · exact h.modPage i _

theorem State.Accounted.retire (i : Fin 64) : (s.retire i).Accounted := by
  have hunloaded := ((h.leaveLesson i).abortFill i).advanceGen i
  unfold State.retire
  dsimp only
  split
  · exact hunloaded.freeRecord i
  · exact hunloaded.modPage i _

/-! ### References and staging (R24, R118): no slot is touched -/

theorem State.Accounted.dropSel (o : Option (Fin 64)) : (s.dropSel o).Accounted := by
  cases o <;> exact h.congr rfl rfl rfl

theorem State.Accounted.moveSel (a b : Option (Fin 64)) : (s.moveSel a b).Accounted := by
  unfold State.moveSel
  split
  · exact h
  · cases b <;> exact (h.dropSel a).congr rfl rfl rfl

theorem State.Accounted.dropCyc (o : Option (Fin 64)) : (s.dropCyc o).Accounted := by
  cases o <;> exact h.congr rfl rfl rfl

theorem State.Accounted.moveCyc (a b : Option (Fin 64)) : (s.moveCyc a b).Accounted := by
  unfold State.moveCyc
  split
  · exact h
  · cases b <;> exact (h.dropCyc a).congr rfl rfl rfl

theorem State.Accounted.stage (v : ViewId) (sel : Selection) : (s.stage v sel).Accounted :=
  (h.moveSel _ _).modView v _

theorem State.Accounted.stageIfFollowing (v : ViewId) (sel : Selection) :
    (s.stageIfFollowing v sel).Accounted := by
  unfold State.stageIfFollowing
  split
  · exact h.stage v sel
  · exact h

theorem State.Accounted.stageFollowing (sel : Selection) : (s.stageFollowing sel).Accounted :=
  ((h.stageIfFollowing .proj sel).stageIfFollowing .strm sel).stageIfFollowing .panel sel

theorem State.Accounted.goTo (l : Fin 8) (p : Nat) : (s.goTo l p).Accounted :=
  (h.modLesson l _).stageFollowing _

end

end Sys2Proof.Machine
end

section
/-! SUPPORT. The account of still memory at every command: freezes and loads take blocks that are free, a reset gives
back all of them, and the descriptors read at it hold sound headers (R48, R54, R155, R162). -/

namespace Sys2Proof.Machine

/-! ### Answers and checks -/

theorem accounted_linkFree : LinkFree State.Accounted where
  link _ _ h := h.congr rfl rfl rfl
  pending _ _ h := h.congr rfl rfl rfl

section
variable {s : State} (h : s.Accounted)
include h

/-- A guarded command keeps the account where its effect does. -/
theorem State.Accounted.guarded {checks : List Check} {act : Result}
    (hact : firstFailure checks = none → act.1.Accounted) : (guarded s checks act).1.Accounted := by
  unfold Machine.guarded
  split
  · exact h
  · next hnone => exact hact hnone

theorem State.Accounted.runGroup (members : List (Fin 64)) (checks : State → Fin 64 → List Check)
    {act : State → Fin 64 → State} (hact : ∀ t i, t.Accounted → (act t i).Accounted) :
    (s.runGroup members checks act).1.Accounted := by
  refine List.foldlRecOn (motive := fun t : Tally => t.s.Accounted) members _ h fun t ht i _ => ?_
  unfold Tally.treat
  split
  · exact ht
  · exact hact _ _ ht

theorem State.Accounted.runMembers (target : Members) (zero : Bool) (payload : List Check)
    (checks : State → Fin 64 → List Check) {act : State → Fin 64 → State}
    (hact : ∀ t i, t.Accounted → (act t i).Accounted) :
    (s.runMembers target zero payload checks act).1.Accounted := by
  unfold State.runMembers
  cases target with
  | page r => exact h.guarded fun _ => hact s _ h
  | group g =>
    dsimp only
    split
    · exact h
    · exact h.runGroup _ _ hact
  | allPages =>
    dsimp only
    split
    · exact h
    · exact h.runGroup _ _ hact

theorem State.Accounted.eachView (vs : ViewSet) {f : State → ViewId → State}
    (hf : ∀ t v, t.Accounted → (f t v).Accounted) : (s.eachView vs f).Accounted :=
  List.foldlRecOn _ _ h fun t ht v _ => hf t v ht

/-! ### Page records and stills (R8 to R28, R54, R62) -/

theorem State.Accounted.editSetup (i : Fin 64) (f : Setup → Setup) : (s.editSetup i f).Accounted :=
  (h.modPage i _).touch i

theorem State.Accounted.dropStill (i : Fin 64) : (s.dropStill i).Accounted :=
  ((h.abortFill i).releaseStill i).touch i

theorem State.Accounted.insertEntry (l : Fin 8) (i : Fin 64) (p : Nat) : (s.insertEntry l i p).Accounted :=
  (h.modLesson l _).modPage i _

theorem State.Accounted.placeNew (i : Fin 64) (place : Option Placement) : (s.placeNew i place).Accounted := by
  cases place with
  | none => exact h
  | some p => exact h.insertEntry _ i _

omit h in
theorem slot_of_lowestFreeSlot {s : State} {k : Fin 24} (hk : s.lowestFreeSlot = some k) : (s.slot k).st = .free := by
  simpa using List.find?_some hk

omit h in
theorem lowestFree_ne_zero {s : State} {i : Fin 64} (hi : s.lowestFree = some i) : i ≠ 0 := by
  have hfree := List.find?_some hi
  rw [Bool.and_eq_true, bne_iff_ne] at hfree
  exact hfree.1

/-- A freeze that is not short of blocks takes them from the free ones (R54, R57). -/
theorem State.Accounted.acceptFreeze {k : Fin 24} (i : Fin 64) {src : FreezeSource}
    (hk : s.lowestFreeSlot = some k) (hroom : s.blocksShort src = false) : (s.acceptFreeze i k src).Accounted := by
  refine h.startFill i _ _ (slot_of_lowestFreeSlot hk) ?_
  simpa [State.blocksShort] using hroom

theorem State.Accounted.saveFreeze (i : Fin 64) {freeze : Option (Code FreezeSource)}
    (hroom : s.saveBlocksShort freeze = false) : (s.saveFreeze i freeze).Accounted := by
  cases freeze with
  | none => exact h
  | some src =>
    unfold State.saveFreeze
    dsimp only
    split
    · next k hk => exact h.acceptFreeze i hk hroom
    · exact h

theorem State.Accounted.allocating {make : Fin 64 → State} (code : ResultCode)
    (hmake : ∀ i, s.lowestFree = some i → (make i).Accounted) : (s.allocating make code).1.Accounted := by
  unfold State.allocating
  split
  · exact h
  · next i hi => exact hmake i hi

omit h in
/-- The block count of a save's freeze does not depend on the record the save allocates, which is not record 0. -/
theorem saveBlocksShort_modPage (s : State) {i : Fin 64} (hi : i ≠ 0) (f : Record → Record)
    (freeze : Option (Code FreezeSource)) : (s.modPage i f).saveBlocksShort freeze = s.saveBlocksShort freeze := by
  cases freeze with
  | none => rfl
  | some src =>
    have hcorners : (s.modPage i f).cornerChoice = s.cornerChoice := by
      rw [State.cornerChoice, s.modPage_page_ne f hi]
      rfl
    have hblocks : ∀ source, (s.modPage i f).freezeBlocks source = s.freezeBlocks source := fun source => by
      cases source with
      | proj => rfl
      | page => simp only [State.freezeBlocks, hcorners]
    simp only [State.saveBlocksShort, State.blocksShort, hblocks, State.modPage_freeBlocks]

theorem pageSaveBlock_accounted (lvl : Level) (form : SaveForm) : (pageSaveBlock lvl form s).1.Accounted := by
  unfold pageSaveBlock
  split
  · exact h
  · split
    · exact h.setFlag .stillFull
    · next hroom =>
      refine h.guarded fun _ => h.allocating _ fun i hi => ?_
      have hne := lowestFree_ne_zero hi
      refine State.Accounted.placeNew (State.Accounted.saveFreeze ((h.modPage i _).modPage i _) i ?_) i _
      rw [saveBlocksShort_modPage _ hne]
      exact (saveBlocksShort_modPage s hne _ _).trans (Bool.eq_false_iff.mpr hroom)

theorem stillFreezeBlock_accounted (lvl : Level) (page : PageRef) (source : Code FreezeSource) :
    (stillFreezeBlock lvl page source s).1.Accounted := by
  unfold stillFreezeBlock
  dsimp only
  split
  · exact h
  · split
    · exact h.setFlag .stillFull
    · next hroom =>
      split
      · next k hk => exact h.acceptFreeze _ hk (Bool.eq_false_iff.mpr hroom)
      · exact h

/-! ### Lessons (R38, R43, R46) -/

theorem lessonStepBlock_accounted (form : StepForm) : (lessonStepBlock form s).1.Accounted := by
  unfold lessonStepBlock
  dsimp only
  split
  · exact h
  · split
    · exact h
    · split
      · exact h
      · exact h.goTo _ _

theorem State.Accounted.makeAbsent (l : Fin 8) : (s.makeAbsent l).Accounted := h.congr rfl rfl rfl

theorem State.Accounted.evict (l : Fin 8) : (s.evict l).Accounted :=
  State.Accounted.makeAbsent (List.foldlRecOn _ _ h fun _ ht i _ => State.Accounted.retire ht i) l

theorem lessonEvictBlock_accounted (lvl : Level) (n : Nat) (form : EvictForm) :
    (lessonEvictBlock lvl n form s).1.Accounted := by
  unfold lessonEvictBlock
  dsimp only
  split
  · exact h
  · split
    · exact h
    · split
      · exact h
      · split
        · exact h
        · exact h.evict _

theorem State.Accounted.edgeStep (k : StepKind) : (s.edgeStep k).Accounted := by
  unfold State.edgeStep
  split
  · exact h.goTo _ _
  · exact h

/-! ### The lesson flash (R155 to R167) -/

omit h in
theorem dirBlocks_sum_take_le (dir : List (Option DirEntry)) (n : Nat) :
    ((dir.take n).map dirBlocks).sum ≤ (dir.map dirBlocks).sum :=
  ((List.take_sublist n dir).map dirBlocks).sum_le_sum fun _ _ => Nat.zero_le _

/-- The page of a load that has its blocks free takes them, and no more (R163). -/
theorem State.Accounted.reservePage {entry : Option DirEntry} (hroom : dirBlocks entry ≤ s.freeBlocks) :
    (s.reservePage entry).Accounted ∧ s.freeBlocks ≤ (s.reservePage entry).freeBlocks + dirBlocks entry := by
  unfold State.reservePage
  split
  · exact ⟨h, Nat.le_add_right _ _⟩
  · next i _ =>
    have hallocated := h.modPage i fun r => { Record.blank (r.gen + 1) with st := .loading, dirty := false }
    dsimp only
    split
    · next e k hk =>
      refine ⟨State.Accounted.startFill hallocated i _ _ (slot_of_lowestFreeSlot hk) hroom, ?_⟩
      show s.freeBlocks ≤ s.freeBlocks - e.blocks + e.blocks
      omega
    · exact ⟨hallocated, Nat.le_add_right _ _⟩

theorem State.Accounted.reservePages {dir : List (Option DirEntry)}
    (hroom : (dir.map dirBlocks).sum ≤ s.freeBlocks) : (dir.foldl State.reservePage s).Accounted := by
  induction dir generalizing s with
  | nil => exact h
  | cons entry rest ih =>
    rw [List.map_cons, List.sum_cons] at hroom
    obtain ⟨hreserved, hleft⟩ := h.reservePage (entry := entry) (by omega)
    exact ih hreserved (by omega)

theorem State.Accounted.beginLoad (l : Fin 8) {v : HeaderVals} (hroom : (v.dir.map dirBlocks).sum ≤ s.freeBlocks) :
    (s.beginLoad l v).Accounted :=
  State.Accounted.setOp
    (State.Accounted.reservePages (h.modLesson l _) ((dirBlocks_sum_take_le _ _).trans hroom)) _

/-- A load is accepted with as many blocks free as its header says, which are those of its directory (R162). -/
theorem lessonLoadBlock_accounted (lvl : Level) (n : Nat) : (lessonLoadBlock lvl n s).1.Accounted := by
  unfold lessonLoadBlock
  dsimp only
  split
  · exact h
  · split
    · exact h
    · next v hv =>
      refine h.guarded fun hpass => h.beginLoad _ ?_
      have hroom := (firstFailure_eq_none_iff _).mp hpass
        (decide (s.freeSlotCount < v.stills) || decide (s.freeBlocks < v.blocks), .noStill) (by simp)
      rw [h.headers _ v hv]
      simp only [Bool.or_eq_false_iff, decide_eq_false_iff_not, Nat.not_lt] at hroom
      exact hroom.2

theorem State.Accounted.beginCommit (l : Fin 8) : (s.beginCommit l).Accounted :=
  (State.Accounted.setDesc ((h.modLesson l _).modArea l _) l (d := .invalid) fun _ hv => nomatch hv).setOp _

theorem State.Accounted.beginErase (l : Fin 8) : (s.beginErase l).Accounted :=
  (State.Accounted.setDesc ((h.modLesson l _).modArea l _) l (d := .invalid) fun _ hv => nomatch hv).setOp _

theorem State.Accounted.writePage (l : Fin 8) (k : Nat) : (s.writePage l k).Accounted := by
  unfold State.writePage
  dsimp only
  split
  · exact (h.modArea l _).modArea l _
  · exact h.modArea l _

/-- The header a commit leaves is that of the directory as it stands (R160). -/
theorem State.Accounted.completeCommit (l : Fin 8) : (s.completeCommit l).Accounted := by
  have hclean : ((s.lesson l).order.foldl
      (fun t i => t.modPage i fun r => { r with dirty := false }) s).Accounted :=
    List.foldlRecOn _ _ h fun _ ht i _ => State.Accounted.modPage ht i _
  refine State.Accounted.setFlag (State.Accounted.setOp
    ((State.Accounted.modLesson hclean l _).setDesc l (d := ⟨true, true, some (s.headerOf l)⟩) ?_) none) _
  intro v hv
  obtain rfl := Option.some.inj hv
  rfl

theorem State.Accounted.commitPhaseEnd (l : Fin 8) (p : CommitPhase) : (s.commitPhaseEnd l p).Accounted := by
  cases p with
  | erase => exact (h.modArea l _).setOp _
  | header => exact (h.modArea l _).setOp _
  | page k => exact ((h.writePage l k).modLesson l _).setOp _
  | marker => exact (h.modArea l _).completeCommit l

theorem State.Accounted.failCommit (l : Fin 8) : (s.failCommit l).Accounted :=
  ((h.modLesson l _).setOp _).setFlag _

theorem State.Accounted.dropLoading (i : Fin 64) : (s.dropLoading i).Accounted := by
  unfold State.dropLoading
  dsimp only
  split
  · exact (h.freeSlot _).modPage i _
  · exact h.modPage i _

theorem State.Accounted.endLoad (l : Fin 8) : (s.endLoad l).Accounted :=
  State.Accounted.setOp (State.Accounted.makeAbsent
    (List.foldlRecOn _ _ h fun _ ht i _ => State.Accounted.dropLoading ht i) l) _

theorem State.Accounted.failLoad (l : Fin 8) : (s.failLoad l).Accounted := (h.endLoad l).setFlag _

theorem State.Accounted.openLoaded (l : Fin 8) (i : Fin 64) : (State.openLoaded l s i).Accounted := by
  unfold State.openLoaded
  dsimp only
  split
  next k _ =>
    have hready := h.modSlot k (f := fun x => { x with st := .ready, source := none, phase := none })
      (fun _ => rfl) fun _ => SlotState.noConfusion
    exact hready.modPage i _
  next => exact h.modPage i _

theorem State.Accounted.completeLoad (l : Fin 8) : (s.completeLoad l).Accounted := by
  have hopened : (s.loadingRecords.foldl (State.openLoaded l) s).Accounted :=
    List.foldlRecOn _ _ h fun _ ht i _ => State.Accounted.openLoaded ht l i
  exact ((hopened.modLesson l _).setOp _).setFlag _

theorem State.Accounted.loadNext (l : Fin 8) (pages k : Nat) : (s.loadNext l pages k).Accounted := by
  unfold State.loadNext
  split
  · exact h.setOp _
  · exact h.completeLoad l

theorem State.Accounted.writeLoaded (l : Fin 8) (dir : List (Option DirEntry)) (k : Nat) (b : List Byte) :
    (s.writeLoaded l dir k b).Accounted := by
  unfold State.writeLoaded
  split
  · next i _ =>
    have hwritten := h.modPage i fun r => { r with setup := pageSetup b }
    unfold State.fillLoaded
    split
    · exact hwritten.modSlot _ (fun _ => rfl) fun _ hx => hx
    · exact hwritten
  · exact h

theorem State.Accounted.loadPhaseEnd (l : Fin 8) (p : LoadPhase) : (s.loadPhaseEnd l p).Accounted := by
  unfold State.loadPhaseEnd
  split
  · split
    · exact h.loadNext _ _ _
    · exact h.failLoad l
  · unfold State.loadPage
    split
    · split
      · exact (h.writeLoaded _ _ _ _).loadNext _ _ _
      · exact h.failLoad l
    · exact h.failLoad l
  · exact h.failLoad l

theorem State.Accounted.stepFails : s.stepFails.Accounted := by
  unfold State.stepFails
  split
  · exact h.failCommit _
  · exact h.failLoad _
  · exact h.setOp _
  · exact h

theorem execCommitPhaseEnd_accounted : ∃ t, execCommitPhaseEnd s = .next t ∧ t.Accounted := by
  refine ⟨_, rfl, ?_⟩
  split
  · exact h.commitPhaseEnd _ _
  · exact h

theorem execLoadPhaseEnd_accounted : ∃ t, execLoadPhaseEnd s = .next t ∧ t.Accounted := by
  refine ⟨_, rfl, ?_⟩
  split
  · exact h.loadPhaseEnd _ _
  · exact h

theorem execClearEnd_accounted : ∃ t, execClearEnd s = .next t ∧ t.Accounted := by
  refine ⟨_, rfl, ?_⟩
  split
  · exact h.setOp _
  · exact h

theorem execFlashStepFailure_accounted (clearAlone : Bool) :
    ∃ t, execFlashStepFailure clearAlone s = .next t ∧ t.Accounted := by
  refine ⟨_, rfl, ?_⟩
  split
  · exact h
  · exact h.stepFails

theorem State.Accounted.abandon (l : Fin 8) :
    (if (s.lesson l).st = .committing then s.failCommit l else s.endLoad l).Accounted := by
  split
  · exact h.failCommit l
  · exact h.endLoad l

/-! ### Sensor Intake and the Page Finder (R66 to R86) -/

theorem State.Accounted.matchSettled (sig : Signature) : (s.matchSettled sig).Accounted := by
  unfold State.matchSettled
  split
  · split
    · split
      · exact (h.goTo _ _).setFlag _
      · exact (h.stageFollowing _).setFlag _
    · exact h
  · exact h

theorem State.Accounted.offerFocusStart : s.offerFocusStart.Accounted := by
  unfold State.offerFocusStart
  split
  · exact h.modLens _
  · exact h

theorem State.Accounted.focusCheck : s.focusCheck.Accounted := by
  unfold State.focusCheck
  split
  · exact (h.modFinder _).offerFocusStart
  · exact h

theorem State.Accounted.settle (f : IntakeFrame) : (s.settle f).Accounted := by
  have hsigned := (h.modFinder fun p => { p with liveSig := some (s.settledSignature f) }).modPage 0
    fun r => { r with setup := { r.setup with signature := some (s.settledSignature f) } }
  unfold State.settle
  dsimp only
  refine State.Accounted.focusCheck (State.Accounted.matchSettled (State.Accounted.setFlag ?_ _) _)
  split
  · exact hsigned
  · exact hsigned.modPage 0 _

theorem State.Accounted.updateReport : s.updateReport.Accounted := by
  unfold State.updateReport
  dsimp only
  split
  · exact (h.modFinder _).setFlag _
  · exact h.modFinder _

theorem State.Accounted.analyse (f : IntakeFrame) : (s.analyse f).Accounted := by
  have hmoved : ∀ p : Finder, ({ s with pfd := p } : State).Accounted := fun _ => h.congr rfl rfl rfl
  have htracked : (if (s.pfd.observe f).settings.tracking = .continuous ∧ f.outline.isSome then
      ({ s with pfd := ((s.pfd.observe f).move (s.pfd.measure f)).1 } : State).track f.outline
      else { s with pfd := ((s.pfd.observe f).move (s.pfd.measure f)).1 }).Accounted := by
    split
    · exact (hmoved _).modPage 0 _
    · exact hmoved _
  unfold State.analyse
  dsimp only
  refine State.Accounted.modFinder (State.Accounted.updateReport ?_) _
  split
  · exact htracked.settle f
  · exact (htracked.modFinder _).stageFollowing _
  · exact htracked

theorem State.Accounted.queueLamp (level : Fin 16) (sync : Bool) : (s.queueLamp level sync).Accounted :=
  (h.modLens _).modFinder _

theorem State.Accounted.offerSync : s.offerSync.Accounted := by
  unfold State.offerSync
  split
  · exact h.queueLamp _ _
  · exact h

theorem State.Accounted.offerStep : s.offerStep.Accounted := by
  unfold State.offerStep
  split
  · split
    · exact h.queueLamp _ _
    · split
      · exact h.queueLamp _ _
      · exact h
  · exact h

theorem State.Accounted.frameIncomplete : s.frameIncomplete.Accounted := (h.modIntake _).requeueFills

theorem State.Accounted.offerPoll : s.offerPoll.Accounted := by
  unfold State.offerPoll
  split
  · exact h.modLens _
  · exact h

/-- The fills captured and the focus run's request offered at an intake frame start. -/
theorem State.Accounted.captureAndOffer :
    (if s.pfd.run = .starting then (s.captureFills .page).offerFocusStart
      else (s.captureFills .page).offerPoll).Accounted := by
  split
  · exact (h.captureFills .page).offerFocusStart
  · exact (h.captureFills .page).offerPoll

theorem State.Accounted.frameStart : s.frameStart.Accounted := by
  unfold State.frameStart
  refine State.Accounted.captureAndOffer (State.Accounted.modIntake ?_ _)
  split
  · exact h.frameIncomplete
  · exact h

theorem State.Accounted.keepPicture (f : IntakeFrame) :
    (if s.sin.st = .running then s.modIntake fun x => { x with lastGood := some f.pixels } else s).Accounted := by
  split
  · exact h.modIntake _
  · exact h

theorem State.Accounted.intakeMove (f : IntakeFrame) : (s.intakeMove f).Accounted := by
  have hentered : s.enterRunning.Accounted := (h.modIntake _).modFinder _
  unfold State.intakeMove
  refine State.Accounted.keepPicture ?_ f
  split
  · exact hentered
  · split
    · exact hentered
    · exact h
  · exact h

theorem State.Accounted.frameComplete (f : IntakeFrame) : (s.frameComplete f).Accounted := by
  have hfilled := ((h.modIntake fun x =>
    { x with good := min 65535 (x.good + 1), inProgress := false }).intakeMove f).completePageFills f.pixels f.light
  unfold State.frameComplete
  dsimp only
  split
  · exact (hfilled.analyse f).offerFocusStart.offerSync.offerStep
  · exact hfilled.offerFocusStart.offerSync

theorem State.Accounted.frameEnd (f : IntakeFrame) : (s.frameEnd f).Accounted := by
  unfold State.frameEnd
  split
  · split
    · exact h.frameComplete f
    · exact h.frameIncomplete
  · exact h

theorem State.Accounted.cancelRun : s.cancelRun.Accounted := by
  unfold State.cancelRun
  split
  · exact h
  · exact (h.modLens _).bus (State.endRun_bus _ _)

theorem State.Accounted.loseSensor : s.loseSensor.Accounted :=
  State.Accounted.setFlag (((h.modIntake _).modFinder _).abortFills .page).cancelRun _

theorem execIntakeTimeout_accounted : ∃ t, execIntakeTimeout s = .next t ∧ t.Accounted := by
  refine ⟨_, rfl, ?_⟩
  split
  · exact (h.modIntake _).setFlag _
  · exact h.loseSensor

theorem matchTryBlock_accounted (lesson : Option Nat) (probe : Option (List Nat)) :
    (matchTryBlock lesson probe s).1.Accounted := by
  unfold matchTryBlock
  split
  · exact h
  · split
    · exact h
    · split <;> exact h

theorem State.Accounted.lensSetup (f : LensForm) : (s.lensSetup f).Accounted := by
  unfold State.lensSetup
  dsimp only
  split
  · exact h.modLens _
  · exact (h.modLens _).modFinder _

/-! ### Telegrams received (R177 to R179) -/

theorem State.Accounted.takeFramed (t : Telegram) : (s.takeFramed t).Accounted := by
  unfold State.takeFramed
  split
  · exact h.modLink _
  · dsimp only
    split
    · exact (h.modLink _).setFlag _
    · exact h.modLink _

theorem State.Accounted.selectPeriod (b : List Byte) : (s.selectPeriod b).Accounted := by
  unfold State.selectPeriod
  split
  · exact h
  · split
    · exact h.modLink _
    · unfold State.judge
      split
      · exact (h.modLink _).takeFramed _
      · exact (h.modLink _).setFlag _

/-! ### The output ports (R137, R138, R145 to R153) -/

theorem State.Accounted.applyView (v : ViewId) : (s.applyView v).Accounted := by
  unfold State.applyView
  exact (h.moveSel _ _).modView v _

theorem State.Accounted.applyAtStart (v : ViewId) : (s.applyAtStart v).Accounted := by
  have happlied : (if (s.view v).applies then s.applyView v else s).Accounted := by
    split
    · exact h.applyView v
    · exact h
  unfold State.applyAtStart
  dsimp only
  split
  · exact happlied.modPort v _
  · exact happlied

theorem State.Accounted.beginFrame (v : ViewId) : (s.beginFrame v).Accounted := by
  have hheld := ((h.takeHolds (s.resolve v)).modView v fun c =>
    { c.advance with frame := s.frameValues v (s.resolve v) }).modDetail fun d =>
      { d with bandSets := d.bandSets.set v (s.frameBandSet (s.resolve v)
                            (zoomOf (s.view v) (s.frameValues v (s.resolve v)))) }
  unfold State.beginFrame
  dsimp only
  refine State.Accounted.modPort ?_ v _
  split
  · exact hheld.captureFills .proj
  · exact hheld

theorem State.Accounted.startFrame (v : ViewId) : (s.startFrame v).Accounted := (h.applyAtStart v).beginFrame v

theorem State.Accounted.hold (n : Nat) :
    (if n = 60 then
      (s.modPort .strm fun p => { p with st := .holding, ready := false, stall := n }).setFlag .strmStalled
      else s.modPort .strm fun p => { p with st := .holding, ready := false, stall := n }).Accounted := by
  split
  · exact (h.modPort _ _).setFlag _
  · exact h.modPort _ _

theorem State.Accounted.strmPeriod (ready : Bool) : (if ready then s.strmReady else s.stall).Accounted := by
  split
  · exact (h.modPort _ _).startFrame .strm
  · exact h.hold _

theorem State.Accounted.framePeriod (v : ViewId) (ready : Bool) : (s.framePeriod v ready).Accounted := by
  unfold State.framePeriod
  split
  · exact h
  · split
    · exact h.strmPeriod ready
    · exact h.strmPeriod ready
    · exact h.startFrame _
    · exact h

theorem State.Accounted.clearMarksOf (v : ViewId) : (s.clearMarksOf v).Accounted := (h.modView v _).modDetail _

theorem State.Accounted.portOff (v : ViewId) : (s.portOff v).Accounted := by
  unfold State.portOff
  dsimp only
  split
  · exact (h.modPort v _).abortFills .proj
  · exact h.modPort v _

theorem State.Accounted.endFrame (v : ViewId) (f : FlightFrame) : (s.endFrame v f).Accounted := by
  have hcounted : ((s.releaseHolds f.source).countDwell v f.source).Accounted := by
    unfold State.countDwell
    split
    · exact (h.releaseHolds f.source).modPort v _
    · exact h.releaseHolds f.source
  have hfilled : (if v = .proj then
      ((s.releaseHolds f.source).countDwell v f.source).completeProjFills f.picture
      else (s.releaseHolds f.source).countDwell v f.source).Accounted := by
    split
    · exact hcounted.completeProjFills f.picture
    · exact hcounted
  unfold State.endFrame
  dsimp only
  refine State.Accounted.modPort (State.Accounted.clearMarksOf ?_ v) v _
  split
  · exact hfilled.portOff v
  · exact hfilled

theorem execPortFrameEnd_accounted (v : ViewId) : ∃ t, execPortFrameEnd v s = .next t ∧ t.Accounted := by
  refine ⟨_, rfl, ?_⟩
  split
  · exact h.endFrame v _
  · exact h

theorem State.Accounted.stopPort (v : ViewId) : (s.stopPort v).Accounted := by
  unfold State.stopPort
  split
  · exact h.modPort v _
  · exact h.portOff v

theorem State.Accounted.resetPort (v : ViewId) : (s.resetPort v).Accounted := by
  unfold State.resetPort
  split
  · exact State.Accounted.portOff (((h.releaseHolds _).clearMarksOf v).modPort v _) v
  · exact h.portOff v

theorem State.Accounted.writeEntries (v : ViewId) (start : Nat) (entries : List CycleEntry) :
    (s.writeEntries v start entries).Accounted := by
  induction entries generalizing s start with
  | nil => exact h
  | cons e rest ih => exact ih ((h.moveCyc _ _).modPort v _) (start + 1)

theorem State.Accounted.clearCycle (v : ViewId) : (s.clearCycle v).Accounted :=
  State.Accounted.modPort (List.foldlRecOn _ _ h fun _ ht e _ => State.Accounted.dropCyc ht e.sel.page?) v _

end

/-! ### Resets (R48, R49, R155, R156) -/

/-- A sound header's block count is that of its directory (R155). -/
theorem Area.describe_header {a : Area} {l : Fin 8} {v : HeaderVals} (h : (a.describe l).header = some v) :
    (v.dir.map dirBlocks).sum = v.blocks := by
  have hread : a.readHeader l = some v := by
    unfold Area.describe at h
    split at h
    · split at h
      · next w hw => exact hw.trans h
      · cases h
    · cases h
  unfold Area.readHeader at hread
  split at hread
  · split at hread
    · next b _ =>
      split at hread
      · next hsound =>
        obtain rfl := Option.some.inj hread
        simp only [headerSound, Bool.and_eq_true, beq_iff_eq] at hsound
        obtain ⟨⟨-, hblocks⟩, -⟩ := hsound
        exact hblocks.symm
      · cases hread
    · cases hread
  · cases hread

theorem State.resetWith_accounted (s : State) (lost : Fin 8 → Bool) : (s.resetWith lost).Accounted := by
  have hslot : ∀ k, (s.resetWith lost).slot k = (s.slot k).afterReset := fun k => by
    simp [State.slot, State.resetWith]
  refine ⟨?sum, fun k _ => ?empty, fun l v hv => ?headers⟩
  case sum =>
    simp only [State.heldBlocks, hslot]
    show 64 + ((List.finRange 24).map fun _ => 0).sum = 64
    simp
  case empty => rw [hslot]; rfl
  case headers =>
    have hdesc : (s.resetWith lost).descs[l] = s.areas[l].describe l := by
      simp [State.resetWith, State.readAreas]
    exact Area.describe_header (hdesc ▸ hv)

theorem State.softReset_accounted (s : State) : s.softReset.Accounted :=
  (s.resetWith_accounted fun l => (s.lesson l).lostAfterSoft).congr rfl rfl rfl

end Sys2Proof.Machine
end

section
/-! SUPPORT. Every command keeps the account of still memory (R48, R49). -/

namespace Sys2Proof.Machine

theorem concludes_accounted {r : Result} (h : r.1.Accounted) : ∃ t, conclude r = .next t ∧ t.Accounted :=
  ⟨_, rfl, h.congr rfl rfl rfl⟩

/-- A guarded command concludes with the account kept where its effect keeps it. -/
theorem State.Accounted.concludes {s t : State} (h : s.Accounted) (ht : t.Accounted) {checks : List Check}
    {a : Answer} : ∃ u, conclude (Machine.guarded s checks (t, a)) = .next u ∧ u.Accounted :=
  concludes_accounted (h.guarded fun _ => ht)

theorem accounted_keptByCommands : KeptByCommands State.Accounted := by
  intro c s hc h
  cases c with
  | powerOnReset => exact ⟨_, rfl, s.resetWith_accounted _⟩
  | telegramReceived bits => exact ⟨_, rfl, h.selectPeriod _⟩
  | fetch n => exact ⟨_, rfl, h.modLink _⟩
  | dispatch => exact absurd rfl hc
  | takeEdge => exact ⟨_, rfl, h.congr rfl rfl rfl⟩
  | nextEdge => exact ⟨_, rfl, h.edgeStep _⟩
  | prevEdge => exact ⟨_, rfl, h.edgeStep _⟩
  | adminNegation => exact ⟨_, rfl, h.modLink _⟩
  | adminAssertion => exact ⟨_, rfl, h.modLink _⟩
  | pageNew lvl place =>
    exact concludes_accounted (h.guarded fun _ => h.allocating _ fun i _ =>
      State.Accounted.placeNew (h.modPage i _) i place)
  | pageSave lvl form => exact concludes_accounted (pageSaveBlock_accounted h lvl form)
  | pageCopy lvl src place =>
    exact concludes_accounted (h.guarded fun _ => h.allocating _ fun i _ =>
      State.Accounted.placeNew ((h.modPage i _).modPage i _) i place)
  | pageSet lvl page form => exact h.concludes (h.editSetup _ _)
  | pageZone lvl target form => exact concludes_accounted (h.runMembers _ _ _ _ fun _ i ht => ht.editSetup i _)
  | pageMarks lvl page form => exact h.concludes (h.editSetup _ _)
  | pageMarkclear lvl target positions =>
    exact concludes_accounted (h.runMembers _ _ _ _ fun _ i ht => ht.editSetup i _)
  | pageSign lvl page form => exact h.concludes (h.editSetup _ _)
  | pageLock lvl target lock => exact concludes_accounted (h.runMembers _ _ _ _ fun _ i ht => ht.editSetup i _)
  | pageGroup lvl page groups => exact h.concludes (h.editSetup _ _)
  | pageRetire lvl target => exact concludes_accounted (h.runMembers _ _ _ _ fun _ i ht => ht.retire i)
  | pageRead page => exact h.concludes h
  | lessonActivate lesson =>
    cases lesson with
    | none => exact concludes_accounted (h.setActive none)
    | some n => exact h.concludes (h.setActive _)
  | lessonOpen lvl lesson form => exact h.concludes (h.modLesson _ _)
  | lessonSet lvl lesson form => exact h.concludes (h.modLesson _ _)
  | lessonPlace lvl page place => exact h.concludes ((h.leaveLesson _).insertEntry _ _ _)
  | lessonMove lvl lesson a b => exact h.concludes ((h.modLesson _ _).modPage _ _)
  | lessonRemove lvl lesson p => exact h.concludes ((h.modLesson _ _).modPage _ _)
  | lessonStep form => exact concludes_accounted (lessonStepBlock_accounted h form)
  | lessonRead lesson => exact h.concludes h
  | lessonEvict lvl lesson form => exact concludes_accounted (lessonEvictBlock_accounted h lvl lesson form)
  | lessonCommit lvl lesson => exact h.concludes (h.beginCommit _)
  | lessonLoad lvl lesson => exact concludes_accounted (lessonLoadBlock_accounted h lvl lesson)
  | lessonAbandon lvl lesson =>
    exact h.concludes (h.abandon _)
  | lessonErase lvl lesson => exact h.concludes (h.beginErase _)
  | stillFreeze lvl page source => exact concludes_accounted (stillFreezeBlock_accounted h lvl page source)
  | stillDrop lvl target => exact concludes_accounted (h.runMembers _ _ _ _ fun _ i ht => ht.dropStill i)
  | stillRead => exact concludes_accounted h
  | findSetup lvl form => exact h.concludes (h.modFinder _)
  | findRead => exact concludes_accounted h
  | findClear => exact ⟨_, rfl, h.congr rfl rfl rfl⟩
  | matchSetup lvl form => exact h.concludes (h.setMatcher _ _)
  | matchTry lesson probe => exact concludes_accounted (matchTryBlock_accounted h lesson probe)
  | detailTable lvl form => exact h.concludes (h.modDetail _)
  | detailLight lvl form => exact h.concludes (h.modDetail _)
  | detailReadBandSet views => exact h.concludes h
  | detailReadTables => exact concludes_accounted h
  | viewSelect views form => exact h.concludes (h.eachView _ fun t v ht => (ht.stage v _).modStaged v _)
  | viewFallback lvl views form => exact h.concludes (h.eachView _ fun t v ht => (ht.moveSel _ _).modView v _)
  | viewZoom views form => exact h.concludes (h.eachView _ fun t v ht => ht.modStaged v _)
  | viewPan views x y => exact h.concludes (h.eachView _ fun t v ht => ht.modStaged v _)
  | viewRoute lvl views route => exact h.concludes (h.eachView _ fun t v ht => ht.modStaged v _)
  | viewMode views form => exact h.concludes (h.eachView _ fun t v ht => ht.modView v _)
  | viewTake views => exact h.concludes (h.eachView _ fun t v ht => ht.modView v _)
  | viewRead views => exact h.concludes h
  | portStart lvl views rate => exact h.concludes (h.eachView _ fun t v ht => ht.modPort v _)
  | portStop lvl views => exact h.concludes (h.eachView _ fun t v ht => ht.stopPort v)
  | portReset lvl views => exact h.concludes (h.eachView _ fun t v ht => ht.resetPort v)
  | portRead views => exact h.concludes h
  | cycleWrite views form => exact h.concludes (h.eachView _ fun t v ht => ht.writeEntries v _ _)
  | cycleLength views length => exact h.concludes (h.eachView _ fun t v ht => ht.modPort v _)
  | cycleClear views => exact h.concludes (h.eachView _ fun t v ht => ht.clearCycle v)
  | lensSetup lvl form => exact h.concludes (h.lensSetup form)
  | bridgeWrite lvl form => exact h.concludes (h.modLens _)
  | bridgeRead lvl form =>
    cases form with
    | none => exact concludes_accounted h
    | some f => exact h.concludes (h.modLens _)
  | bridgeResult => exact concludes_accounted h
  | devCeiling n => exact h.concludes (h.modLink _)
  | devMask bits => exact h.concludes (h.modLink _)
  | devStatus mode =>
    cases mode with
    | always => exact concludes_accounted (h.clearFlags _)
    | errors => exact concludes_accounted h
  | devAck bits => exact h.concludes (h.clearFlags _)
  | devIdent => exact concludes_accounted h
  | devReset lvl =>
    by_cases hlvl : lvl.passes .owner = true
    · exact ⟨_, if_pos hlvl, s.softReset_accounted⟩
    · exact ⟨_, if_neg hlvl, h.congr rfl rfl rfl⟩
  | intakeFrameStart => exact ⟨_, rfl, h.frameStart⟩
  | intakeFrameEnd f => exact ⟨_, rfl, h.frameEnd f⟩
  | intakeTimeout => exact execIntakeTimeout_accounted h
  | lensTransactionEnd acked data => exact ⟨_, rfl, h.bus (s.transactionEnd_bus acked data)⟩
  | clockHoldTimeout => exact ⟨_, rfl, h.bus s.clockHeld_bus⟩
  | portFramePeriod port ready => exact ⟨_, rfl, h.framePeriod port ready⟩
  | portFrameEnd port => exact execPortFrameEnd_accounted h port
  | commitPhaseEnd => exact execCommitPhaseEnd_accounted h
  | loadPhaseEnd => exact execLoadPhaseEnd_accounted h
  | clearEnd => exact execClearEnd_accounted h
  | flashStepFailure clearAlone => exact execFlashStepFailure_accounted h clearAlone
  | flashStepTimeout => exact ⟨_, rfl, h.stepFails⟩

/-- Settles O60: slots are rewritten with the blocks they take or return accounted for, freezes and loads take free
blocks, and a descriptor is written with the account of its directory. -/
theorem stillBlocksAddUp : Obligations.StillBlocksAddUp := fun s t hs hstep =>
  t.accounted_iff.mp (step_keeps accounted_linkFree accounted_keptByCommands (s.accounted_iff.mpr hs) hstep)

end Sys2Proof.Machine
end

section
/-! SUPPORT. STILL.DROP and the completion of a fill, written out field by field (R9, R52, R59, R60, R62). -/

namespace Sys2Proof.Machine.StillLaws

open LessonLaws

/-! ### Tables read entry by entry -/

theorem records_eq {t : State} {v : Vector Record 64} (h : ∀ j, t.page j = v[j]) : t.records = v :=
  Vector.ext fun j hj => h ⟨j, hj⟩

theorem slots_eq {t : State} {v : Vector Slot 24} (h : ∀ k, t.slot k = v[k]) : t.slots = v :=
  Vector.ext fun k hk => h ⟨k, hk⟩

theorem records_eq_set {s t : State} {i : Fin 64} {r : Record}
    (h : ∀ j, t.page j = if i = j then r else s.page j) : t.records = s.records.set i r :=
  records_eq fun j => by
    rw [h j]
    simp only [Fin.getElem_fin, Vector.getElem_set, Fin.val_inj]
    rfl

theorem slots_eq_ofFn {t : State} {f : Fin 24 → Slot} (h : ∀ k, t.slot k = f k) : t.slots = Vector.ofFn f :=
  slots_eq fun k => by rw [h k]; exact (Vector.getElem_ofFn k.isLt).symm

/-- A change of the tables that leaves the views and the active lesson, written out by what it reaches. -/
theorem eq_of_tableFields {s t : State} (h : TableChange s t) (hviews : t.views = s.views)
    (hactive : t.active = s.active) {records : Vector Record 64} {lessons : Vector Lesson 8}
    {slots : Vector Slot 24} {n : Nat} {status : FlagSet} (hrecords : t.records = records)
    (hlessons : t.lessons = lessons) (hslots : t.slots = slots) (hfree : t.freeBlocks = n)
    (hstatus : t.link.status = status) :
    t = { s with
      records := records, lessons := lessons, slots := slots, freeBlocks := n,
      link := { s.link with status := status } } := by
  have hlink := h.link
  rw [hstatus] at hlink
  rw [← hrecords, ← hlessons, ← hslots, ← hfree, ← hlink, ← hactive]
  exact eq_of_tableChange h hviews

/-! ### touch (R9) -/

theorem touch_page (s : State) (i j : Fin 64) (hi : i ≠ 0) :
    (s.touch i).page j = if i = j then { s.page i with dirty := true } else s.page j := by
  unfold State.touch
  rw [if_neg hi]
  dsimp only
  split
  · exact State.modPage_page s i j fun r => { r with dirty := true }
  · exact State.modPage_page s i j fun r => { r with dirty := true }

theorem touch_lessons (s : State) (i : Fin 64) : (s.touch i).lessons = s.lessonsEdited i := by
  unfold State.touch State.lessonsEdited
  by_cases hi : i = 0
  · rw [if_pos hi, if_pos hi]
  · rw [if_neg hi, if_neg hi]
    cases (s.page i).lesson <;> rfl

/-- An edit's dirty flags are in records and lessons alone. -/
theorem touch_eq (s : State) (i : Fin 64) :
    s.touch i = { s with records := (s.touch i).records, lessons := (s.touch i).lessons } := by
  unfold State.touch
  split
  · rfl
  · dsimp only
    split <;> rfl

@[simp] theorem touch_slots (s : State) (i : Fin 64) : (s.touch i).slots = s.slots := by rw [touch_eq]
@[simp] theorem touch_slot (s : State) (i : Fin 64) (k : Fin 24) : (s.touch i).slot k = s.slot k := by
  rw [touch_eq]; rfl
@[simp] theorem touch_freeBlocks (s : State) (i : Fin 64) : (s.touch i).freeBlocks = s.freeBlocks := by rw [touch_eq]
@[simp] theorem touch_link (s : State) (i : Fin 64) : (s.touch i).link = s.link := by rw [touch_eq]
@[simp] theorem touch_views (s : State) (i : Fin 64) : (s.touch i).views = s.views := by rw [touch_eq]
@[simp] theorem touch_active (s : State) (i : Fin 64) : (s.touch i).active = s.active := by rw [touch_eq]

/-- The lessons an edit of record i leaves depend on the lessons and on the lesson the record belongs to. -/
theorem lessonsEdited_congr {s t : State} {i : Fin 64} (hlessons : t.lessons = s.lessons)
    (hlesson : (t.page i).lesson = (s.page i).lesson) : t.lessonsEdited i = s.lessonsEdited i := by
  simp only [State.lessonsEdited, State.lesson, hlessons, hlesson]

/-! ### releaseStill (R52) -/

theorem releaseStill_page (s : State) (i j : Fin 64) :
    (s.releaseStill i).page j = if i = j then { s.page i with still := none } else s.page j := by
  unfold State.releaseStill
  cases h : (s.page i).still with
  | none =>
    by_cases hij : i = j
    · rw [if_pos hij, ← hij]
      exact congrArg (fun still => { s.page i with still := still }) h
    · rw [if_neg hij]
  | some k => exact (releaseSlot_page _ _ _).trans (State.modPage_page s i j fun r => { r with still := none })

theorem releaseStill_slot (s : State) (i : Fin 64) (k : Fin 24) :
    (s.releaseStill i).slot k = if (s.page i).still = some k then (s.slot k).released else s.slot k := by
  unfold State.releaseStill
  cases h : (s.page i).still with
  | none => simp
  | some m =>
    simp only [releaseSlot_slot, State.modPage_slot, Option.some.injEq]
    split <;> simp_all

theorem releaseStill_freeBlocks (s : State) (i : Fin 64) :
    (s.releaseStill i).freeBlocks = s.freeBlocks + s.blocksReleased (s.page i).still := by
  unfold State.releaseStill
  cases (s.page i).still with
  | none => rfl
  | some k => exact releaseSlot_freeBlocks _ k

@[simp] theorem releaseStill_lessons (s : State) (i : Fin 64) : (s.releaseStill i).lessons = s.lessons := by
  unfold State.releaseStill; split <;> simp
@[simp] theorem releaseStill_active (s : State) (i : Fin 64) : (s.releaseStill i).active = s.active := by
  unfold State.releaseStill; split <;> simp
@[simp] theorem releaseStill_views (s : State) (i : Fin 64) : (s.releaseStill i).views = s.views := by
  unfold State.releaseStill; split <;> simp
@[simp] theorem releaseStill_link (s : State) (i : Fin 64) : (s.releaseStill i).link = s.link := by
  unfold State.releaseStill; split <;> simp

/-! ### STILL.DROP of one record (R62) -/

theorem dropStill_change (s : State) (i : Fin 64) : TableChange s (s.dropStill i) :=
  ((s.abortFill_change i).trans (State.releaseStill_change _ i)).trans (State.touch_change _ i)

section
variable {s : State} {i : Fin 64}

theorem dropStill_page (hi : i ≠ 0) (j : Fin 64) :
    (s.dropStill i).page j =
      if i = j then { s.page i with still := none, fill := none, dirty := true } else s.page j := by
  unfold State.dropStill
  rw [touch_page _ _ _ hi, releaseStill_page, releaseStill_page, abortFill_page, abortFill_page, if_pos rfl, if_pos rfl]
  split <;> rfl

theorem dropStill_lessons : (s.dropStill i).lessons = s.lessonsEdited i := by
  unfold State.dropStill
  rw [touch_lessons]
  refine lessonsEdited_congr (by simp) ?_
  rw [releaseStill_page, if_pos rfl, abortFill_page, if_pos rfl]

theorem dropStill_status : (s.dropStill i).link.status = s.statusAborting (s.page i).fill := by
  unfold State.dropStill
  rw [touch_link, releaseStill_link, abortFill_status]

section
variable (happart : ∀ k : Fin 24, (s.page i).still = some k → (s.page i).fill ≠ some k)
include happart

theorem dropStill_slot (k : Fin 24) :
    (s.dropStill i).slot k =
      if (s.page i).fill = some k then (s.slot k).freed
      else if (s.page i).still = some k then (s.slot k).released
      else s.slot k := by
  have hk := happart k
  unfold State.dropStill
  rw [touch_slot, releaseStill_slot, abortFill_page, if_pos rfl, abortFill_slot]
  by_cases hs : (s.page i).still = some k
  · simp [hs, hk hs]
  · simp [hs]

theorem dropStill_freeBlocks :
    (s.dropStill i).freeBlocks =
      s.freeBlocks + s.blocksOf (s.page i).fill + s.blocksReleased (s.page i).still := by
  unfold State.dropStill
  rw [touch_freeBlocks, releaseStill_freeBlocks, abortFill_page, if_pos rfl, abortFill_freeBlocks]
  cases hs : (s.page i).still with
  | none => rfl
  | some k => simp [State.blocksReleased, abortFill_slot, happart k hs]

end

end

/-! ### A record named by its present handle -/

theorem badIndex_refTo (s : State) (i : Fin 64) : (s.refTo i).badIndex = false := by
  simp only [PageRef.badIndex, refTo_idx_toNat, decide_eq_false_iff_not]
  omega

theorem isCurrent_refTo {s : State} {i : Fin 64} (hst : (s.page i).st = .opened) :
    s.isCurrent (s.refTo i) = true := by
  have hgen : (s.refTo i).gen = (s.page i).gen := rfl
  simp [State.isCurrent, badIndex_refTo, hst, hgen]

theorem firstFailure_memberChecks {s : State} {lvl : Level} {i : Fin 64} (h : s.editable lvl i) :
    firstFailure (s.memberChecks lvl (s.page i).setup.lock i) = none := by
  obtain ⟨-, hlock, hcommit⟩ := h
  have hbusy : s.inCommit i = false := by
    unfold State.inCommit
    split
    · next l hl => simpa using hcommit l hl
    · rfl
  simp [State.memberChecks, hlock, hbusy]

theorem exec_stillDrop_editable {s : State} {lvl : Level} {i : Fin 64} (hi : i ≠ 0) (h : s.editable lvl i) :
    exec (.stillDrop lvl (.page (s.refTo i))) s = answers (s.dropStill i) .ok .empty := by
  obtain ⟨hst, -, -⟩ := id h
  refine (conclude_guarded s _ _).trans ?_
  simp only [refTo_record, badIndex_refTo, isCurrent_refTo hst, firstFailure_append, firstFailure_memberChecks h]
  simp [firstFailure_cons, hi]
  rfl

theorem stillDropReleases : Says.StillDropReleases := by
  intro s lvl i hi hedit happart
  rw [exec_stillDrop_editable hi hedit]
  refine congrArg (fun t => answers t .ok .empty) (eq_of_tableFields (dropStill_change s i) ?_ ?_
    (records_eq_set (dropStill_page hi)) dropStill_lessons (slots_eq_ofFn (dropStill_slot happart))
    (dropStill_freeBlocks happart) dropStill_status)
  · simp [State.dropStill]
  · simp [State.dropStill]

/-! ### The completion of a fill (R59) -/

/-- A slot whose fill has completed with this picture and light level (R59). -/
def filledSlot (x : Slot) (picture : Picture) (light : Fin 16) : Slot :=
  { x with st := .ready, source := none, phase := none, capture := none, picture := some picture, light := light }

section
variable {s : State} {k : Fin 24} {i : Fin 64} {gen : Byte} (picture : Picture) (light : Fin 16)
  (hrecord : (s.slot k).record = some ⟨i, gen⟩)
include hrecord

theorem completeFill_eq :
    s.completeFill k picture light =
      ((((s.releaseStill i).modSlot k fun x => filledSlot x picture light).modPage i
        fun r => { r with still := some k, fill := none }).touch i).setFlag .freezeDone := by
  unfold State.completeFill
  rw [hrecord]
  rfl

theorem completeFill_page (hi : i ≠ 0) (j : Fin 64) :
    (s.completeFill k picture light).page j =
      if i = j then { s.page i with still := some k, fill := none, dirty := true } else s.page j := by
  rw [completeFill_eq picture light hrecord, State.setFlag_page, touch_page _ _ _ hi, State.modPage_page,
    State.modPage_page, State.modSlot_page, State.modSlot_page, releaseStill_page, releaseStill_page, if_pos rfl,
    if_pos rfl]
  split <;> rfl

theorem completeFill_slot (hother : (s.page i).still ≠ some k) (j : Fin 24) :
    (s.completeFill k picture light).slot j =
      if j = k then filledSlot (s.slot k) picture light
      else if (s.page i).still = some j then (s.slot j).released
      else s.slot j := by
  rw [completeFill_eq picture light hrecord, State.setFlag_slot, touch_slot, State.modPage_slot, State.modSlot_slot,
    releaseStill_slot, releaseStill_slot, if_neg hother]
  simp only [eq_comm]

theorem completeFill_lessons : (s.completeFill k picture light).lessons = s.lessonsEdited i := by
  rw [completeFill_eq picture light hrecord, State.setFlag_lessons, touch_lessons]
  refine lessonsEdited_congr (releaseStill_lessons s i) ?_
  rw [State.modPage_page_same, State.modSlot_page, releaseStill_page, if_pos rfl]

theorem completeFill_freeBlocks :
    (s.completeFill k picture light).freeBlocks = s.freeBlocks + s.blocksReleased (s.page i).still := by
  rw [completeFill_eq picture light hrecord, State.setFlag_freeBlocks, touch_freeBlocks]
  exact releaseStill_freeBlocks s i

theorem completeFill_status :
    (s.completeFill k picture light).link.status = s.link.status ||| Flag.only .freezeDone := by
  rw [completeFill_eq picture light hrecord]
  simp

theorem completeFill_views : (s.completeFill k picture light).views = s.views := by
  rw [completeFill_eq picture light hrecord]
  simp

theorem completeFill_active : (s.completeFill k picture light).active = s.active := by
  rw [completeFill_eq picture light hrecord]
  simp

end

theorem fillCompletionGivesStill : Says.FillCompletionGivesStill := by
  intro s k i gen picture light hi hrecord hother
  exact eq_of_tableFields (s.completeFill_change k picture light) (completeFill_views picture light hrecord)
    (completeFill_active picture light hrecord) (records_eq_set (completeFill_page picture light hrecord hi))
    (completeFill_lessons picture light hrecord)
    (slots_eq_ofFn (completeFill_slot picture light hrecord hother)) (completeFill_freeBlocks picture light hrecord)
    (completeFill_status picture light hrecord)

/-- Settles O19, by what an abort, a release and a completion each do to the tables. -/
theorem stillsReleased : Obligations.StillsReleased := ⟨stillDropReleases, fillCompletionGivesStill⟩

end Sys2Proof.Machine.StillLaws
end

section
/-! SUPPORT. Several fills aborted, one after another (R49, R60). -/

namespace Sys2Proof.Machine.StillLaws

open LessonLaws

/-- Slots each of which is the fill pending of the one record of 1..63 it names (R50). -/
structure OwnedFills (s : State) (ks : List (Fin 24)) : Prop where
  nodup : ks.Nodup
  owner : ∀ k ∈ ks, ∃ (i : Fin 64) (gen : Byte), i ≠ 0 ∧ (s.slot k).record = some ⟨i, gen⟩
    ∧ ∀ j : Fin 64, (s.page j).fill = some k ↔ j = i

theorem ownedFills_filter {s : State} {src : FillSource} (h : s.fillsAgree src) {p : Fin 24 → Bool}
    (hp : ∀ k, p k = true → (s.slot k).st = .filling ∧ (s.slot k).source = some src) :
    OwnedFills s ((List.finRange 24).filter p) where
  nodup := (List.nodup_finRange 24).filter p
  owner k hk := by
    obtain ⟨hst, hsrc⟩ := hp k (List.mem_filter.mp hk).2
    exact h.1 k hst hsrc

/-- Slots keep their owners where their records and the fills pending stand. -/
theorem OwnedFills.congr {s t : State} {ks : List (Fin 24)} (h : OwnedFills s ks)
    (hrecord : ∀ k ∈ ks, (t.slot k).record = (s.slot k).record)
    (hfill : ∀ k ∈ ks, ∀ j, (t.page j).fill = some k ↔ (s.page j).fill = some k) : OwnedFills t ks where
  nodup := h.nodup
  owner k hk := by
    obtain ⟨i, gen, hi, hrec, howner⟩ := h.owner k hk
    exact ⟨i, gen, hi, (hrecord k hk).trans hrec, fun j => (hfill k hk j).trans (howner j)⟩

theorem OwnedFills.tail {s : State} {k : Fin 24} {ks : List (Fin 24)} (h : OwnedFills s (k :: ks)) :
    OwnedFills s ks where
  nodup := (List.nodup_cons.mp h.nodup).2
  owner m hm := h.owner m (List.mem_cons_of_mem k hm)

theorem OwnedFills.head_ne {s : State} {k m : Fin 24} {ks : List (Fin 24)} (h : OwnedFills s (k :: ks))
    (hm : m ∈ ks) : k ≠ m := by
  rintro rfl
  exact (List.nodup_cons.mp h.nodup).1 hm

/-- What the abort of fills leaves of the state (R49, R60). -/
structure AbortedTo (s : State) (ks : List (Fin 24)) (t : State) : Prop where
  slot : ∀ k, t.slot k = if k ∈ ks then (s.slot k).freed else s.slot k
  page : ∀ i, t.page i =
    if ∃ k ∈ ks, (s.page i).fill = some k then { s.page i with fill := none } else s.page i
  freeBlocks : t.freeBlocks = s.freeBlocks + (ks.map fun k => (s.slot k).blocks).sum
  status : t.link.status = if ks = [] then s.link.status else s.link.status ||| Flag.only .freezeAborted
  lessons : t.lessons = s.lessons
  active : t.active = s.active
  views : t.views = s.views

theorem AbortedTo.nil (s : State) : AbortedTo s [] s where
  slot k := by simp
  page i := by simp
  freeBlocks := rfl
  status := rfl
  lessons := rfl
  active := rfl
  views := rfl

section
variable {s : State} {k : Fin 24} {ks : List (Fin 24)} {i : Fin 64} {gen : Byte}
  (hrecord : (s.slot k).record = some ⟨i, gen⟩) (howner : ∀ j : Fin 64, (s.page j).fill = some k ↔ j = i)
include hrecord

theorem abortSlot_eq_abortFill : s.abortSlot k = s.abortFill i := by
  unfold State.abortSlot
  rw [hrecord]

include howner

theorem abortSlot_slot (m : Fin 24) : (s.abortSlot k).slot m = if m = k then (s.slot m).freed else s.slot m := by
  rw [abortSlot_eq_abortFill hrecord, abortFill_slot, (howner i).mpr rfl]
  simp only [Option.some.injEq, eq_comm]

omit howner in
theorem abortSlot_page (j : Fin 64) :
    (s.abortSlot k).page j = if j = i then { s.page j with fill := none } else s.page j := by
  rw [abortSlot_eq_abortFill hrecord, abortFill_page]
  by_cases hij : i = j
  · rw [if_pos hij, if_pos hij.symm, hij]
  · rw [if_neg hij, if_neg (Ne.symm hij)]

theorem OwnedFills.abortSlot (h : OwnedFills s (k :: ks)) : OwnedFills (s.abortSlot k) ks := by
  refine h.tail.congr (fun m hm => ?_) fun m hm j => ?_
  · rw [abortSlot_slot hrecord howner, if_neg (h.head_ne hm).symm]
  · rw [abortSlot_page hrecord]
    split
    · next hj =>
      have hk : (s.page j).fill = some k := (howner j).mpr hj
      simp [hk, h.head_ne hm]
    · rfl

/-- An abort at the head, then those of the tail. -/
theorem AbortedTo.cons (h : OwnedFills s (k :: ks)) {t : State} (ht : AbortedTo (s.abortSlot k) ks t) :
    AbortedTo s (k :: ks) t where
  slot m := by
    rw [ht.slot, abortSlot_slot hrecord howner]
    by_cases hm : m ∈ ks
    · simp [hm, (h.head_ne hm).symm]
    · simp [hm]
  page j := by
    rw [ht.page, abortSlot_page hrecord]
    simp only [List.exists_mem_cons_iff, howner]
    by_cases hj : j = i <;> simp [hj]
  freeBlocks := by
    have hrest : (ks.map fun m => ((s.abortSlot k).slot m).blocks) = ks.map fun m => (s.slot m).blocks :=
      List.map_congr_left fun m hm => by rw [abortSlot_slot hrecord howner, if_neg (h.head_ne hm).symm]
    rw [ht.freeBlocks, hrest, abortSlot_eq_abortFill hrecord, abortFill_freeBlocks, (howner i).mpr rfl, List.map_cons,
      List.sum_cons, Nat.add_assoc]
    rfl
  status := by
    rw [ht.status, abortSlot_eq_abortFill hrecord, abortFill_status, (howner i).mpr rfl]
    split <;> simp [State.statusAborting, BitVec.or_assoc]
  lessons := by rw [ht.lessons, abortSlot_eq_abortFill hrecord, abortFill_lessons]
  active := by rw [ht.active, abortSlot_eq_abortFill hrecord, abortFill_active]
  views := by rw [ht.views, abortSlot_eq_abortFill hrecord, abortFill_views]

end

theorem foldl_abortSlot_abortedTo {s : State} {ks : List (Fin 24)} (h : OwnedFills s ks) :
    AbortedTo s ks (ks.foldl State.abortSlot s) := by
  induction ks generalizing s with
  | nil => exact .nil s
  | cons k rest ih =>
    obtain ⟨i, gen, -, hrecord, howner⟩ := h.owner k List.mem_cons_self
    exact .cons hrecord howner h (ih (h.abortSlot hrecord howner))

theorem mem_fillsFrom {s : State} {src : FillSource} {k : Fin 24} :
    k ∈ s.fillsFrom src ↔ (s.slot k).st = .filling ∧ (s.slot k).source = some src := by
  simp [State.fillsFrom]

theorem ownedFills_fillsFrom {s : State} {src : FillSource} (h : s.fillsAgree src) :
    OwnedFills s (s.fillsFrom src) :=
  ownedFills_filter h fun k hk => by simpa using hk

theorem abortEndsEveryFill : Says.AbortEndsEveryFill := by
  intro s src hagrees hit
  have hfills : s.fillsFrom src = (List.finRange 24).filter hit := by
    simp only [State.fillsFrom, hit, Bool.decide_and, Bool.beq_eq_decide_eq]
  have hmem : ∀ k, k ∈ s.fillsFrom src ↔ hit k = true := fun k => by rw [mem_fillsFrom, decide_eq_true_iff]
  have ht := foldl_abortSlot_abortedTo (ownedFills_fillsFrom hagrees)
  refine eq_of_tableFields (s.abortFills_change src) ht.views ht.active ?records ht.lessons ?slots ?blocks ?status
  case records =>
    refine records_eq fun i => (ht.page i).trans ?_
    rw [Fin.getElem_fin, Vector.getElem_ofFn]
    exact if_congr (by simp only [hmem]) rfl rfl
  case slots => exact slots_eq_ofFn fun k => (ht.slot k).trans (if_congr (hmem k) rfl rfl)
  case blocks => exact ht.freeBlocks.trans (by rw [hfills])
  case status =>
    refine ht.status.trans ?_
    have hnone : s.fillsFrom src = [] ↔ ¬ ∃ k, hit k = true := by
      simp only [List.eq_nil_iff_forall_not_mem, hmem, not_exists]
    by_cases hsome : ∃ k, hit k = true
    · rw [if_pos hsome, if_neg (hnone.not.mpr (not_not.mpr hsome))]
    · rw [if_neg hsome, if_pos (hnone.mpr hsome)]

end Sys2Proof.Machine.StillLaws
end

section
/-! SUPPORT. PORT.START, PORT.STOP and PORT.RESET (R116, R147 to R149). -/

namespace Sys2Proof.Machine.StillLaws

open LessonLaws

/-! ### The checks -/

/-- Within the numbers of view sets, no view is in the set of number 0 alone (R116). -/
theorem viewsOf_isEmpty_iff : ∀ vs : ViewSet, vs.toNat < 8 → ((viewsOf vs).isEmpty = true ↔ vs = 0) := by decide

/-- The checks of a view set come before the checks after them (R116). -/
theorem conclude_setChecks (s : State) (vs : ViewSet) (checks : List Check) (act : Result) :
    conclude (guarded s (setChecks vs ++ checks) act) = forSet s vs (conclude (guarded s checks act)) := by
  rw [conclude_guarded, conclude_guarded, firstFailure_append]
  unfold setChecks forSet
  simp only [firstFailure_cons, firstFailure_nil]
  by_cases hvs : 8 ≤ vs.toNat
  · rw [if_pos (decide_eq_true hvs), if_pos hvs]
    rfl
  · have hempty := viewsOf_isEmpty_iff vs (Nat.lt_of_not_le hvs)
    rw [if_neg (by simpa using hvs), if_neg hvs]
    by_cases hzero : vs = 0
    · rw [if_pos (hempty.mpr hzero), if_pos hzero]
      rfl
    · rw [if_neg (hempty.not.mpr hzero), if_neg hzero]
      rfl

theorem outside_iff (lo hi : Nat) (rate : Option Nat) :
    outside lo hi rate = true ↔ ∃ n, rate = some n ∧ (n < lo ∨ hi < n) := by
  cases rate <;> simp [outside]

theorem rateOutside_iff (rate : Option Nat) (v : ViewId) :
    rateOutside rate v = true ↔ ∃ n, rate = some n ∧ (n < (rateRange v).1 ∨ (rateRange v).2 < n) := by
  cases v <;> exact outside_iff _ _ rate

/-- The fixed lock of OWNER refuses PRESENTER alone. -/
theorem firstFailure_ownerCheck (lvl : Level) :
    firstFailure [ownerCheck lvl] = if lvl = .presenter then some .locked else none := by cases lvl <;> rfl

/-- A check before the rest: refused where it holds (R8). -/
theorem conclude_check (s : State) {b : Bool} {p : Prop} [Decidable p] (h : b = true ↔ p) (c : ResultCode)
    (checks : List Check) (act : Result) :
    conclude (guarded s ((b, c) :: checks) act) =
      if p then answers s c .empty else conclude (guarded s checks act) := by
  rw [conclude_guarded, conclude_guarded, firstFailure_cons]
  by_cases hp : p
  · rw [if_pos hp, if_pos (h.mpr hp)]
    rfl
  · rw [if_neg hp, if_neg (h.not.mpr hp)]

theorem conclude_ownerCheck (s t : State) (lvl : Level) :
    conclude (guarded s [ownerCheck lvl] (done t)) =
      if lvl = .presenter then answers s .locked .empty else answers t .ok .empty := by
  rw [conclude_guarded, firstFailure_ownerCheck]
  split <;> rfl

/-! ### PORT.START (R147) -/

@[simp] theorem Trio.set_set {α : Type} (t : Trio α) (v : ViewId) (a b : α) : (t.set v a).set v b = t.set v b := by
  cases v <;> rfl

/-- A command's change made to each port of a set. -/
theorem eachView_modPort (s : State) (vs : ViewSet) (f : PortCtx → PortCtx) :
    (s.eachView vs fun t v => t.modPort v f) = { s with ports := onPorts s.ports vs f } := by
  simp only [State.eachView, viewsOf, ViewId.all, onPorts, List.filter_cons, List.filter_nil]
  split_ifs <;> rfl

theorem portStartRuns : Says.PortStartRuns := by
  intro s lvl vs rate
  have heffect := eachView_modPort s vs fun p => { p with st := .running, rate := rate.getD p.rate }
  have hany : ((viewsOf vs).any fun v => (s.port v).st != .off) = true ↔
      ∃ v ∈ viewsOf vs, (s.port v).st ≠ .off := by simp
  have hrates : (viewsOf vs).any (rateOutside rate) = true ↔
      ∃ v ∈ viewsOf vs, ∃ n, rate = some n ∧ (n < (rateRange v).1 ∨ (rateRange v).2 < n) := by
    simp only [List.any_eq_true, rateOutside_iff]
  rw [← heffect]
  refine (conclude_check s (outside_iff 15 60 rate) .range (setChecks vs ++ _) _).trans ?_
  rw [conclude_setChecks, conclude_check s hrates, conclude_check s hany, conclude_ownerCheck]
  rfl

/-! ### PORT.STOP (R148) -/

/-- An abort of fills neither reads nor writes the ports. -/
theorem abortSlot_ports (s : State) (ports : Trio PortCtx) (k : Fin 24) :
    ({ s with ports := ports } : State).abortSlot k = { s.abortSlot k with ports := ports } := by
  have hfill : ∀ i : Fin 64,
      ({ s with ports := ports } : State).abortFill i = { s.abortFill i with ports := ports } := by
    intro i
    unfold State.abortFill
    cases h : (s.page i).fill with
    | none => simp only [State.page] at h ⊢; rw [h]
    | some k => simp only [State.page] at h ⊢; rw [h]; rfl
  unfold State.abortSlot
  cases h : (s.slot k).record with
  | none => simp only [State.slot] at h ⊢; rw [h]
  | some r => simp only [State.slot] at h ⊢; rw [h]; exact hfill r.idx

theorem abortFills_ports (s : State) (ports : Trio PortCtx) (src : FillSource) :
    ({ s with ports := ports } : State).abortFills src = { s.abortFills src with ports := ports } := by
  unfold State.abortFills
  exact List.foldl_hom (fun t : State => { t with ports := ports }) fun t k => abortSlot_ports t ports k

/-- PORT.STOP on one port: its stop, and the abort where that leaves PROJ OFF. -/
theorem stopPort_eq (s : State) (v : ViewId) :
    s.stopPort v =
      if v = .proj ∧ (s.port v).stopped.st = .off then (s.modPort v PortCtx.stopped).abortFills .proj
      else s.modPort v PortCtx.stopped := by
  unfold State.stopPort State.portOff
  by_cases hflight : (s.port v).st = .running ∧ (s.port v).frame.isSome
  · have hstopped : (s.port v).stopped = { s.port v with st := .stopping } := if_pos hflight
    simp [State.modPort, hflight, hstopped]
  · have hstopped : (s.port v).stopped = { s.port v with st := .off, stall := 0 } := if_neg hflight
    simp [State.modPort, hflight, hstopped]

/-- A stop at another port after an abort at PROJ is a stop before it. -/
theorem abortFills_modPort (s : State) (src : FillSource) (v : ViewId) (f : PortCtx → PortCtx) :
    (s.abortFills src).modPort v f = (s.modPort v f).abortFills src := by
  have hports := (s.abortFills_change src).ports
  refine Eq.trans ?_ (abortFills_ports s _ src).symm
  simp only [State.modPort, State.port, hports]

theorem eachView_stopPort (s : State) (vs : ViewSet) :
    s.eachView vs State.stopPort =
      if ViewId.proj.inSet vs = true ∧ s.ports.proj.stopped.st = .off then
        ({ s with ports := onPorts s.ports vs PortCtx.stopped } : State).abortFills .proj
      else { s with ports := onPorts s.ports vs PortCtx.stopped } := by
  have hother : ∀ (t : State) (v : ViewId), v ≠ .proj → t.stopPort v = t.modPort v PortCtx.stopped := by
    intro t v hv
    rw [stopPort_eq, if_neg fun h => hv h.1]
  have hproj : s.stopPort .proj = if s.ports.proj.stopped.st = .off then
      (s.modPort .proj PortCtx.stopped).abortFills .proj else s.modPort .proj PortCtx.stopped := by
    rw [stopPort_eq]
    exact if_congr (and_iff_right rfl) rfl rfl
  rw [← eachView_modPort]
  simp only [State.eachView, viewsOf, ViewId.all, List.filter_cons, List.filter_nil]
  by_cases hp : ViewId.proj.inSet vs <;> by_cases hs : ViewId.strm.inSet vs <;>
    by_cases hl : ViewId.panel.inSet vs <;> by_cases hoff : s.ports.proj.stopped.st = .off <;>
    simp [hp, hs, hl, hoff, hother, hproj, abortFills_modPort]

theorem portStopStops : Says.PortStopStops := by
  intro s lvl vs
  have hany : ((viewsOf vs).any fun v => (s.port v).st == .off || (s.port v).st == .stopping) = true ↔
      ∃ v ∈ viewsOf vs, (s.port v).st = .off ∨ (s.port v).st = .stopping := by simp
  rw [← eachView_stopPort]
  refine (conclude_setChecks s vs _ _).trans ?_
  rw [conclude_check s hany, conclude_ownerCheck]

/-! ### PORT.RESET (R149) -/

/-- The change from s to t leaves the lessons, the active lesson and the views. -/
structure LessonsKept (s t : State) : Prop where
  lessons : t.lessons = s.lessons
  active : t.active = s.active
  views : t.views = s.views

theorem LessonsKept.trans {s t u : State} (h : LessonsKept s t) (k : LessonsKept t u) : LessonsKept s u :=
  ⟨k.lessons.trans h.lessons, k.active.trans h.active, k.views.trans h.views⟩

theorem unholdSlot_lessonsKept (s : State) (k : Fin 24) : LessonsKept s (s.unholdSlot k) := by
  unfold State.unholdSlot
  dsimp only
  split <;> exact ⟨rfl, rfl, rfl⟩

theorem unholdRecord_lessonsKept (s : State) (i : Fin 64) : LessonsKept s (s.unholdRecord i) := by
  unfold State.unholdRecord
  dsimp only
  split <;> constructor <;> simp

theorem releaseHolds_lessonsKept (s : State) (src : Source) : LessonsKept s (s.releaseHolds src) := by
  unfold State.releaseHolds
  cases src.record <;> cases src.slot
  · exact ⟨rfl, rfl, rfl⟩
  · exact unholdSlot_lessonsKept s _
  · exact unholdRecord_lessonsKept s _
  · exact (unholdSlot_lessonsKept s _).trans (unholdRecord_lessonsKept _ _)

/-- PORT.RESET on one port, written out. -/
theorem resetPort_eq_portWasReset : State.resetPort = State.portWasReset := by
  funext s v
  unfold State.resetPort State.portWasReset State.portOff
  cases hframe : (s.port v).frame with
  | none => rfl
  | some f =>
    obtain ⟨-, -, hviews⟩ := releaseHolds_lessonsKept s f.source
    have hchange := s.releaseHolds_change f.source
    have hreset : ((s.abandonFrame v f).modPort v fun p => { p with st := .off, stall := 0 }) =
        { s.releaseHolds f.source with
          views := s.views.set v (s.view v).unmarked
          dte := { s.dte with
            bandSets := s.dte.bandSets.set v ((s.dte.bandSets.get v).map fun b => { b with inFlight := false }) }
          ports := s.ports.set v
            { s.port v with st := .off, stall := 0, frame := none, abandoned := (s.port v).abandoned + 1 } } := by
      simp [State.abandonFrame, State.clearMarksOf, State.modPort, State.modView, State.modDetail, State.port,
        State.view, ViewCtx.unmarked, hviews, hchange.dte, hchange.ports]
    exact congrArg (fun t : State => if v = .proj then t.abortFills .proj else t) hreset

theorem portResetAbandons : Says.PortResetAbandons := by
  intro s lvl vs
  refine (conclude_setChecks s vs _ _).trans ?_
  rw [conclude_ownerCheck, State.eachView, resetPort_eq_portWasReset]

/-- Settles O36, from the checks of each command in order and the effect on one port after another. -/
theorem portCommands : Obligations.PortCommands :=
  ⟨portStartRuns, portStopStops, portResetAbandons, abortEndsEveryFill⟩

end Sys2Proof.Machine.StillLaws
end

section
/-! SUPPORT. Several fills completed, one after another (R59). -/

namespace Sys2Proof.Machine.StillLaws

open LessonLaws

/-! ### Attention flags that stay set (R183) -/

/-- Every flag set in s is set in t. -/
def FlagsKept (s t : State) : Prop := ∀ f : Flag, s.hasFlag f = true → t.hasFlag f = true

theorem FlagsKept.refl (s : State) : FlagsKept s s := fun _ h => h

theorem FlagsKept.trans {s t u : State} (h : FlagsKept s t) (k : FlagsKept t u) : FlagsKept s u :=
  fun f hf => k f (h f hf)

theorem FlagsKept.of_or {s t : State} {m : FlagSet} (h : t.link.status = s.link.status ||| m) : FlagsKept s t :=
  fun f hf => by simp_all [State.hasFlag]

theorem FlagsKept.of_eq {s t : State} (h : t.link.status = s.link.status) : FlagsKept s t :=
  fun f hf => by simp_all [State.hasFlag]

theorem hasFlag_of_or {t : State} {m : FlagSet} {f : Flag} (h : t.link.status = m ||| Flag.only f) :
    t.hasFlag f = true := by
  have hbit : (Flag.only f).getLsbD f.bit = true := by cases f <;> decide
  rw [State.hasFlag, h, BitVec.getLsbD_or, hbit, Bool.or_true]

/-! ### The lesson of an edited record (R9) -/

theorem lessonsEdited_dirty (s : State) {i : Fin 64} {l : Fin 8} (hi : i ≠ 0) (hl : (s.page i).lesson = some l) :
    (s.lessonsEdited i)[l].dirty = true := by
  rw [State.lessonsEdited, if_neg hi, hl]
  simp

theorem lessonsEdited_dirty_kept (s : State) (i : Fin 64) {l : Fin 8} (hl : (s.lesson l).dirty = true) :
    (s.lessonsEdited i)[l].dirty = true := by
  unfold State.lessonsEdited
  split
  · exact hl
  · split
    · next m hm =>
      rw [Fin.getElem_fin, Vector.getElem_set]
      split
      · rfl
      · exact hl
    · exact hl

/-! ### A list of fills completed -/

/-- Fills that can complete one after another: each has an owner, and no still is one of them or the still of two
records (R50). -/
structure Completable (s : State) (ks : List (Fin 24)) : Prop where
  owned : OwnedFills s ks
  still : ∀ (i : Fin 64) (j : Fin 24), (s.page i).still = some j →
    j ∉ ks ∧ ∀ m : Fin 64, (s.page m).still = some j → m = i

/-- What the completion of fills with these pictures and this light level leaves of the state (R59). -/
structure CompletedTo (s : State) (ks : List (Fin 24)) (picture : Fin 24 → Picture) (light : Fin 16) (t : State) :
    Prop where
  owner : ∀ k ∈ ks, ∀ i, (s.page i).fill = some k →
    t.page i = { s.page i with still := some k, fill := none, dirty := true }
  page : ∀ i, (∀ k ∈ ks, (s.page i).fill ≠ some k) → t.page i = s.page i
  filled : ∀ k ∈ ks, t.slot k = filledSlot (s.slot k) (picture k) light
  replaced : ∀ k ∈ ks, ∀ i j, (s.page i).fill = some k → (s.page i).still = some j →
    t.slot j = (s.slot j).released
  slot : ∀ j, j ∉ ks → (∀ i k, (s.page i).still = some j → (s.page i).fill = some k → k ∉ ks) →
    t.slot j = s.slot j
  lesson : ∀ k ∈ ks, ∀ i l, (s.page i).fill = some k → (s.page i).lesson = some l → (t.lesson l).dirty = true
  dirty : ∀ l, (s.lesson l).dirty = true → (t.lesson l).dirty = true
  done : ks ≠ [] → t.hasFlag .freezeDone = true
  flags : FlagsKept s t
  active : t.active = s.active
  views : t.views = s.views

theorem CompletedTo.nil (s : State) (picture : Fin 24 → Picture) (light : Fin 16) :
    CompletedTo s [] picture light s where
  owner _ hk := absurd hk List.not_mem_nil
  page _ _ := rfl
  filled _ hk := absurd hk List.not_mem_nil
  replaced _ hk := absurd hk List.not_mem_nil
  slot _ _ _ := rfl
  lesson _ hk := absurd hk List.not_mem_nil
  dirty _ h := h
  done h := absurd rfl h
  flags := .refl s
  active := rfl
  views := rfl

section
variable {s : State} {k : Fin 24} {ks : List (Fin 24)} {i : Fin 64} {gen : Byte} {picture : Fin 24 → Picture}
  {light : Fin 16} (hi : i ≠ 0) (hrecord : (s.slot k).record = some ⟨i, gen⟩)
  (howner : ∀ j : Fin 64, (s.page j).fill = some k ↔ j = i) (h : Completable s (k :: ks))
include hi hrecord

theorem completeFill_page_owner (p : Picture) :
    (s.completeFill k p light).page i = { s.page i with still := some k, fill := none, dirty := true } := by
  rw [completeFill_page p light hrecord hi, if_pos rfl]

theorem completeFill_lesson_dirty (p : Picture) {l : Fin 8} (hl : (s.page i).lesson = some l) :
    ((s.completeFill k p light).lesson l).dirty = true := by
  rw [State.lesson, completeFill_lessons p light hrecord]
  exact lessonsEdited_dirty s hi hl

omit hi in
theorem completeFill_lesson_dirty_kept (p : Picture) {l : Fin 8} (hl : (s.lesson l).dirty = true) :
    ((s.completeFill k p light).lesson l).dirty = true := by
  rw [State.lesson, completeFill_lessons p light hrecord]
  exact lessonsEdited_dirty_kept s i hl

theorem completeFill_page_ne (p : Picture) {j : Fin 64} (hj : j ≠ i) :
    (s.completeFill k p light).page j = s.page j := by
  rw [completeFill_page p light hrecord hi, if_neg hj.symm]

include h

omit hi in
theorem Completable.head_slot (p : Picture) (j : Fin 24) :
    (s.completeFill k p light).slot j =
      if j = k then filledSlot (s.slot k) p light
      else if (s.page i).still = some j then (s.slot j).released
      else s.slot j :=
  completeFill_slot p light hrecord (fun hk => (h.still i k hk).1 List.mem_cons_self) j

omit hi in
theorem Completable.head_slot_tail (p : Picture) {m : Fin 24} (hm : m ∈ ks) :
    (s.completeFill k p light).slot m = s.slot m := by
  rw [h.head_slot hrecord, if_neg (h.owned.head_ne hm).symm,
    if_neg fun hstill => (h.still i m hstill).1 (List.mem_cons_of_mem k hm)]

include howner

/-- The records with a fill of the tail pending are not the head's. -/
theorem Completable.tail_owner_ne {m : Fin 24} (hm : m ∈ ks) {j : Fin 64} (hj : (s.page j).fill = some m) :
    j ≠ i := by
  rintro rfl
  have hk : some k = some m := ((howner j).mpr rfl).symm.trans hj
  exact h.owned.head_ne hm (Option.some.inj hk)

theorem Completable.tail (p : Picture) : Completable (s.completeFill k p light) ks where
  owned := by
    refine h.owned.tail.congr (fun m hm => by rw [h.head_slot_tail hrecord p hm]) fun m hm j => ?_
    by_cases hj : j = i
    · rw [hj, completeFill_page_owner hi hrecord p]
      have hne : (s.page i).fill ≠ some m := fun hm' => h.tail_owner_ne hi hrecord howner hm hm' rfl
      simp [hne]
    · rw [completeFill_page_ne hi hrecord p hj]
  still j m hstill := by
    have hnodup := List.nodup_cons.mp h.owned.nodup
    have hnot : ∀ n, (s.page n).still ≠ some k := fun n hn => (h.still n k hn).1 List.mem_cons_self
    by_cases hj : j = i
    · rw [hj, completeFill_page_owner hi hrecord p, Option.some.injEq] at hstill
      subst hstill
      refine ⟨hnodup.1, fun n hn => ?_⟩
      by_contra hne
      rw [completeFill_page_ne hi hrecord p (hj ▸ hne)] at hn
      exact hnot n hn
    · rw [completeFill_page_ne hi hrecord p hj] at hstill
      obtain ⟨hm, hunique⟩ := h.still j m hstill
      refine ⟨fun h' => hm (List.mem_cons_of_mem k h'), fun n hn => ?_⟩
      by_cases hni : n = i
      · rw [hni, completeFill_page_owner hi hrecord p, Option.some.injEq] at hn
        exact absurd (hn ▸ hstill) (hnot j)
      · rw [completeFill_page_ne hi hrecord p hni] at hn
        exact hunique n hn

/-- A completion at the head, then those of the tail. -/
theorem CompletedTo.cons {t : State} (ht : CompletedTo (s.completeFill k (picture k) light) ks picture light t) :
    CompletedTo s (k :: ks) picture light t where
  owner m hm j hj := by
    rcases List.mem_cons.mp hm with rfl | hm
    · obtain rfl := (howner j).mp hj
      rw [ht.page j fun m' _ => by simp [completeFill_page_owner hi hrecord], completeFill_page_owner hi hrecord]
    · have hpage := completeFill_page_ne hi hrecord (picture k) (light := light)
        (h.tail_owner_ne hi hrecord howner hm hj)
      rw [ht.owner m hm j (hpage ▸ hj), hpage]
  page j hj := by
    have hne : j ≠ i := fun hji => hj k List.mem_cons_self ((howner j).mpr hji)
    have hpage := completeFill_page_ne hi hrecord (picture k) (light := light) hne
    rw [ht.page j fun m hm => hpage ▸ hj m (List.mem_cons_of_mem k hm), hpage]
  filled m hm := by
    rcases List.mem_cons.mp hm with rfl | hm
    · have hnot := (h.tail hi hrecord howner (light := light) (picture m)).still i m
        (by rw [completeFill_page_owner hi hrecord])
      rw [ht.slot m hnot.1 fun j n hj hn => ?_, h.head_slot hrecord, if_pos rfl]
      obtain rfl := hnot.2 j hj
      simp [completeFill_page_owner hi hrecord] at hn
    · rw [ht.filled m hm, h.head_slot_tail hrecord _ hm]
  replaced m hm j n hj hn := by
    obtain ⟨hmem, hunique⟩ := h.still j n hn
    have hnk : n ≠ k := fun hnk => hmem (hnk ▸ List.mem_cons_self)
    rcases List.mem_cons.mp hm with rfl | hm
    · obtain rfl := (howner j).mp hj
      rw [ht.slot n (fun hn' => hmem (List.mem_cons_of_mem m hn')) fun p q hp _ => ?_, h.head_slot hrecord,
        if_neg hnk, if_pos hn]
      by_cases hpj : p = j
      · rw [hpj, completeFill_page_owner hi hrecord, Option.some.injEq] at hp
        exact absurd hp.symm hnk
      · rw [completeFill_page_ne hi hrecord _ hpj] at hp
        exact absurd (hunique p hp) hpj
    · have hne := h.tail_owner_ne hi hrecord howner hm hj
      have hpage := completeFill_page_ne hi hrecord (picture k) (light := light) hne
      rw [ht.replaced m hm j n (hpage ▸ hj) (hpage ▸ hn), h.head_slot hrecord, if_neg hnk,
        if_neg fun hi' => hne (hunique i hi').symm]
  slot n hn hrest := by
    have hnk : n ≠ k := fun hnk => hn (hnk ▸ List.mem_cons_self)
    have hnot : (s.page i).still ≠ some n := fun hi' => hrest i k hi' ((howner i).mpr rfl) List.mem_cons_self
    rw [ht.slot n (fun hn' => hn (List.mem_cons_of_mem k hn')) fun p q hp hq => ?_, h.head_slot hrecord,
      if_neg hnk, if_neg hnot]
    by_cases hpi : p = i
    · simp [hpi, completeFill_page_owner hi hrecord] at hq
    · rw [completeFill_page_ne hi hrecord _ hpi] at hp hq
      exact fun hq' => hrest p q hp hq (List.mem_cons_of_mem k hq')
  lesson m hm j l hj hl := by
    rcases List.mem_cons.mp hm with rfl | hm
    · obtain rfl := (howner j).mp hj
      exact ht.dirty l (completeFill_lesson_dirty hi hrecord _ hl)
    · have hpage := completeFill_page_ne hi hrecord (picture k) (light := light)
        (h.tail_owner_ne hi hrecord howner hm hj)
      exact ht.lesson m hm j l (hpage ▸ hj) (hpage ▸ hl)
  dirty l hl := ht.dirty l (completeFill_lesson_dirty_kept hrecord _ hl)
  done _ := ht.flags _ (hasFlag_of_or (completeFill_status (picture k) light hrecord))
  flags := (FlagsKept.of_or (completeFill_status (picture k) light hrecord)).trans ht.flags
  active := ht.active.trans (completeFill_active (picture k) light hrecord)
  views := ht.views.trans (completeFill_views (picture k) light hrecord)

end

theorem foldl_completeFill_completedTo {s : State} {ks : List (Fin 24)} (picture : Fin 24 → Picture) (light : Fin 16)
    (h : Completable s ks) :
    CompletedTo s ks picture light (ks.foldl (fun t k => t.completeFill k (picture k) light) s) := by
  induction ks generalizing s with
  | nil => exact .nil s picture light
  | cons k rest ih =>
    obtain ⟨i, gen, hi, hrecord, howner⟩ := h.owned.owner k List.mem_cons_self
    exact .cons hi hrecord howner h (ih (h.tail hi hrecord howner (picture k)))

/-! ### The fills CAPTURING on a frame (R58) -/

theorem mem_fillsIn {s : State} {src : FillSource} {ph : FillPhase} {k : Fin 24} :
    k ∈ s.fillsIn src ph ↔
      (s.slot k).st = .filling ∧ (s.slot k).source = some src ∧ (s.slot k).phase = some ph := by
  simp [State.fillsIn, mem_fillsFrom, and_assoc]

theorem mem_fillsIn_capturing {s : State} {src : FillSource} {k : Fin 24} :
    k ∈ s.fillsIn src .capturing ↔ s.capturing src k := mem_fillsIn

theorem completable_fillsIn {s : State} {src : FillSource} {ph : FillPhase} (h : s.fillsAgree src) :
    Completable s (s.fillsIn src ph) where
  owned := by
    have hfills : s.fillsIn src ph = (List.finRange 24).filter fun k =>
        decide ((s.slot k).st = .filling ∧ (s.slot k).source = some src) && decide ((s.slot k).phase = some ph) := by
      simp [State.fillsIn, State.fillsFrom, List.filter_filter, Bool.and_comm, Bool.beq_eq_decide_eq]
    rw [hfills]
    exact ownedFills_filter h fun k hk => by simp_all
  still i j hstill := by
    obtain ⟨hst, -⟩ := h.2 i i j hstill
    exact ⟨fun hj => hst (mem_fillsIn.mp hj).1, fun m hm => ((h.2 i m j hstill).2 hm).symm⟩

end Sys2Proof.Machine.StillLaws
end

section
/-! SUPPORT. The end of a frame in flight (R138). -/

namespace Sys2Proof.Machine.StillLaws

open LessonLaws

/-! ### What completed fills leave to later acts -/

theorem released_st_ne_filling (x : Slot) : x.released.st ≠ .filling := by
  unfold Slot.released
  split <;> simp_all [Slot.freed]

section
variable {u b : State} {src : FillSource} {picture : Fin 24 → Picture} {light : Fin 16}
  (h : CompletedTo u (u.fillsIn src .capturing) picture light b)

include h in
/-- What later acts leave of completed fills, where they keep the slots that are not `others`. -/
theorem CompletedTo.fillsCompleted {t : State} {others : Fin 24 → Prop}
    (hslot : ∀ k, ¬ others k → t.slot k = b.slot k)
    (hothers : ∀ k, others k → ¬ u.capturing src k ∧ ∀ i, (u.page i).still ≠ some k)
    (hpage : ∀ i k, u.capturing src k → (u.page i).fill = some k →
      t.page i = { b.page i with selRefs := (t.page i).selRefs })
    (hlesson : ∀ l, (b.lesson l).dirty = true → (t.lesson l).dirty = true) (hflags : FlagsKept b t) :
    u.fillsCompleted t src picture light others := by
  refine ⟨fun k i hk hi => ?_, fun k hk hother hrest => ?_⟩
  · have hmem := mem_fillsIn_capturing.mpr hk
    refine ⟨?_, ?_, fun j hj => ?_, fun l hl => ?_, ?_⟩
    · rw [hslot k fun hk' => (hothers k hk').1 hk, h.filled k hmem]
      rfl
    · rw [hpage i k hk hi, h.owner k hmem i hi]
    · rw [hslot j fun hj' => (hothers j hj').2 i hj, h.replaced k hmem i j hi hj]
    · exact hlesson l (h.lesson k hmem i l hi hl)
    · exact hflags _ (h.done (List.ne_nil_of_mem hmem))
  · rw [hslot k hother]
    exact h.slot k (mt mem_fillsIn_capturing.mp hk) fun i j hi hj => mt mem_fillsIn_capturing.mp (hrest i j hi hj)

variable (hagrees : u.fillsAgree src)
include h hagrees

/-- A fill that was not CAPTURING has its slot and its record as before. -/
theorem CompletedTo.slot_waiting {k : Fin 24} (hst : (u.slot k).st = .filling) (hk : ¬ u.capturing src k) :
    b.slot k = u.slot k :=
  h.slot k (mt mem_fillsIn_capturing.mp hk) fun i _ hi => absurd hst (hagrees.2 i i k hi).1

theorem CompletedTo.mem_fillsFrom {k : Fin 24} :
    k ∈ b.fillsFrom src ↔ (u.slot k).st = .filling ∧ (u.slot k).source = some src ∧ ¬ u.capturing src k := by
  rw [StillLaws.mem_fillsFrom]
  by_cases hk : u.capturing src k
  · rw [h.filled k (mem_fillsIn_capturing.mpr hk)]
    simp [filledSlot, hk]
  · by_cases hreplaced : ∃ i j, (u.page i).still = some k ∧ (u.page i).fill = some j ∧ u.capturing src j
    · obtain ⟨i, j, hi, hj, hcapturing⟩ := hreplaced
      obtain ⟨hst, -⟩ := hagrees.2 i i k hi
      rw [h.replaced j (mem_fillsIn_capturing.mpr hcapturing) i k hj hi]
      simp [hst, released_st_ne_filling]
    · rw [h.slot k (mt mem_fillsIn_capturing.mp hk) fun i j hi hj hj' =>
        hreplaced ⟨i, j, hi, hj, mem_fillsIn_capturing.mp hj'⟩]
      simp [hk]

omit hagrees in
theorem CompletedTo.fill_waiting {k : Fin 24} (hk : ¬ u.capturing src k) (i : Fin 64) :
    (b.page i).fill = some k ↔ (u.page i).fill = some k := by
  by_cases hi : ∃ j ∈ u.fillsIn src .capturing, (u.page i).fill = some j
  · obtain ⟨j, hj, hfill⟩ := hi
    have hne : j ≠ k := by
      rintro rfl
      exact hk (mem_fillsIn_capturing.mp hj)
    rw [h.owner j hj i hfill]
    simp [hfill, hne]
  · rw [h.page i fun j hj hfill => hi ⟨j, hj, hfill⟩]

/-- The fills that wait on stay owned. -/
theorem CompletedTo.ownedFills : OwnedFills b (b.fillsFrom src) where
  nodup := (List.nodup_finRange 24).filter _
  owner k hk := by
    obtain ⟨hst, hsrc, hnot⟩ := (h.mem_fillsFrom hagrees).mp hk
    obtain ⟨i, gen, hi, hrecord, howner⟩ := hagrees.1 k hst hsrc
    exact ⟨i, gen, hi, by rw [h.slot_waiting hagrees hst hnot, hrecord],
      fun j => (h.fill_waiting hnot j).trans (howner j)⟩

end

/-! ### The acts of a frame end -/

/-- The change from s to t reaches at most the tables, the attention flags and port v. -/
structure SettleChange (v : ViewId) (s t : State) : Prop where
  sin : t.sin = s.sin
  pfd : t.pfd = s.pfd
  matchOn : t.matchOn = s.matchOn
  tolerance : t.tolerance = s.tolerance
  dte : t.dte = s.dte
  areas : t.areas = s.areas
  descs : t.descs = s.descs
  op : t.op = s.op
  lens : t.lens = s.lens
  active : t.active = s.active
  views : t.views = s.views
  ports : ∀ w, w ≠ v → t.port w = s.port w

theorem SettleChange.refl (v : ViewId) (s : State) : SettleChange v s s :=
  ⟨rfl, rfl, rfl, rfl, rfl, rfl, rfl, rfl, rfl, rfl, rfl, fun _ _ => rfl⟩

theorem SettleChange.trans {v : ViewId} {s t u : State} (h : SettleChange v s t) (k : SettleChange v t u) :
    SettleChange v s u where
  sin := k.sin.trans h.sin
  pfd := k.pfd.trans h.pfd
  matchOn := k.matchOn.trans h.matchOn
  tolerance := k.tolerance.trans h.tolerance
  dte := k.dte.trans h.dte
  areas := k.areas.trans h.areas
  descs := k.descs.trans h.descs
  op := k.op.trans h.op
  lens := k.lens.trans h.lens
  active := k.active.trans h.active
  views := k.views.trans h.views
  ports w hw := (k.ports w hw).trans (h.ports w hw)

theorem SettleChange.of_table (v : ViewId) {s t : State} (h : TableChange s t) (hactive : t.active = s.active)
    (hviews : t.views = s.views) : SettleChange v s t where
  sin := h.sin
  pfd := h.pfd
  matchOn := h.matchOn
  tolerance := h.tolerance
  dte := h.dte
  areas := h.areas
  descs := h.descs
  op := h.op
  lens := h.lens
  active := hactive
  views := hviews
  ports w _ := congrArg (fun p : Trio PortCtx => p.get w) h.ports

theorem modPort_settleChange (s : State) (v : ViewId) (f : PortCtx → PortCtx) : SettleChange v s (s.modPort v f) :=
  ⟨rfl, rfl, rfl, rfl, rfl, rfl, rfl, rfl, rfl, rfl, rfl, fun _ hw => s.modPort_port_ne f hw.symm⟩

theorem foldl_keeps {α β : Type} {g : State → β} {f : State → α → State} (hf : ∀ s a, g (f s a) = g s)
    (l : List α) (s : State) : g (l.foldl f s) = g s := by
  induction l generalizing s with
  | nil => rfl
  | cons a rest ih => exact (ih _).trans (hf s a)

theorem completeFill_views_kept (s : State) (k : Fin 24) (p : Picture) (light : Fin 16) :
    (s.completeFill k p light).views = s.views := by
  cases h : (s.slot k).record with
  | none => simp only [State.completeFill, h]
  | some r => exact completeFill_views p light h

theorem completeFill_active_kept (s : State) (k : Fin 24) (p : Picture) (light : Fin 16) :
    (s.completeFill k p light).active = s.active := by
  cases h : (s.slot k).record with
  | none => simp only [State.completeFill, h]
  | some r => exact completeFill_active p light h

theorem abortSlot_views (s : State) (k : Fin 24) : (s.abortSlot k).views = s.views := by
  cases h : (s.slot k).record with
  | none => simp only [State.abortSlot, h]
  | some r => rw [abortSlot_eq_abortFill h, abortFill_views]

theorem abortSlot_active (s : State) (k : Fin 24) : (s.abortSlot k).active = s.active := by
  cases h : (s.slot k).record with
  | none => simp only [State.abortSlot, h]
  | some r => rw [abortSlot_eq_abortFill h, abortFill_active]

theorem abortFills_views (s : State) (src : FillSource) : (s.abortFills src).views = s.views :=
  foldl_keeps (g := State.views) abortSlot_views _ s

theorem abortFills_active (s : State) (src : FillSource) : (s.abortFills src).active = s.active :=
  foldl_keeps (g := State.active) abortSlot_active _ s

section
variable (s : State) (v : ViewId) (src : Source)

theorem releaseHolds_settleChange : SettleChange v s (s.releaseHolds src) :=
  .of_table v (s.releaseHolds_change src) (releaseHolds_lessonsKept s src).active (releaseHolds_lessonsKept s src).views

theorem countDwell_settleChange : SettleChange v s (s.countDwell v src) := by
  unfold State.countDwell
  split
  · exact modPort_settleChange s v _
  · exact .refl v s

theorem abortFills_settleChange (origin : FillSource) : SettleChange v s (s.abortFills origin) :=
  .of_table v (s.abortFills_change origin) (abortFills_active s origin) (abortFills_views s origin)

theorem completeProjFills_settleChange (p : Picture) : SettleChange v s (s.completeProjFills p) :=
  .of_table v (s.completeProjFills_change p)
    (foldl_keeps (g := State.active) (fun t k => completeFill_active_kept t k _ _) _ s)
    (foldl_keeps (g := State.views) (fun t k => completeFill_views_kept t k _ _) _ s)

theorem portOff_settleChange : SettleChange v s (s.portOff v) := by
  unfold State.portOff
  dsimp only
  split
  · exact (modPort_settleChange s v _).trans (abortFills_settleChange _ v _)
  · exact modPort_settleChange s v _

end

/-! ### The end of a frame, up to its marks (R138 steps 1 to 4) -/

/-- The state once a frame's holds, its dwell, its fills and a stop are settled. -/
def frameSettled (s : State) (v : ViewId) (f : FlightFrame) : State :=
  let t := (s.releaseHolds f.source).countDwell v f.source
  let t := if v = .proj then t.completeProjFills f.picture else t
  if (s.port v).st = .stopping then t.portOff v else t

/-- The state with a port's frame ended: its marks cleared and its end counted (R138 steps 5 and 6). -/
def frameEnded (c : State) (v : ViewId) : State :=
  { c with
    ports := c.ports.set v { c.port v with ended := (c.port v).ended + 1, frame := none }
    views := c.views.set v (c.view v).unmarked
    dte := { c.dte with
      bandSets := c.dte.bandSets.set v ((c.dte.bandSets.get v).map fun b => { b with inFlight := false }) } }

theorem frameEnded_port (c : State) (v w : ViewId) : (frameEnded c v).port w =
    if v = w then { c.port v with ended := (c.port v).ended + 1, frame := none } else c.port w := Trio.get_set ..

theorem frameEnded_view (c : State) (v w : ViewId) :
    (frameEnded c v).view w = if v = w then (c.view v).unmarked else c.view w := Trio.get_set ..

theorem frameEnded_bands (c : State) (v w : ViewId) : (frameEnded c v).dte.bandSets.get w =
    if v = w then (c.dte.bandSets.get v).map fun b => { b with inFlight := false } else c.dte.bandSets.get w :=
  Trio.get_set ..

theorem exec_portFrameEnd {s : State} {v : ViewId} {f : FlightFrame} (hframe : (s.port v).frame = some f) :
    exec (.portFrameEnd v) s = .next (frameEnded (frameSettled s v f) v) := by
  change Host.Outcome.next _ = _
  rw [hframe]
  rfl

theorem frameSettled_change (s : State) (v : ViewId) (f : FlightFrame) : SettleChange v s (frameSettled s v f) := by
  have hdwell := (releaseHolds_settleChange s v f.source).trans (countDwell_settleChange _ v f.source)
  have hfills : ∀ t : State, SettleChange v t (if v = .proj then t.completeProjFills f.picture else t) := fun t => by
    split
    · exact completeProjFills_settleChange t v _
    · exact .refl v t
  unfold frameSettled
  dsimp only
  split
  · exact (hdwell.trans (hfills _)).trans (portOff_settleChange _ v)
  · exact hdwell.trans (hfills _)

theorem countDwell_port (s : State) (v : ViewId) (src : Source) :
    (s.countDwell v src).port v = { s.port v with
      cycle := if src.cyclePos.isSome ∧ src.mirrored = false then (s.port v).cycle.count else (s.port v).cycle } := by
  unfold State.countDwell
  split
  · exact s.modPort_port_same v _
  · rfl

theorem TableChange.port {s t : State} (h : TableChange s t) (v : ViewId) : t.port v = s.port v :=
  congrArg (fun p : Trio PortCtx => p.get v) h.ports

theorem portOff_port (s : State) (v : ViewId) : (s.portOff v).port v = { s.port v with st := .off, stall := 0 } := by
  unfold State.portOff
  dsimp only
  split
  · rw [TableChange.port (State.abortFills_change _ .proj)]
    exact s.modPort_port_same v _
  · exact s.modPort_port_same v _

theorem frameSettled_port (s : State) (v : ViewId) (f : FlightFrame) :
    (frameSettled s v f).port v = { s.port v with
      st := if (s.port v).st = .stopping then .off else (s.port v).st
      stall := if (s.port v).st = .stopping then 0 else (s.port v).stall
      cycle := if f.source.cyclePos.isSome ∧ f.source.mirrored = false then (s.port v).cycle.count
        else (s.port v).cycle } := by
  have hfills : ∀ t : State, (if v = .proj then t.completeProjFills f.picture else t).port v = t.port v := fun t => by
    split
    · exact TableChange.port (t.completeProjFills_change _) v
    · rfl
  unfold frameSettled
  dsimp only
  split
  · rw [portOff_port, hfills, countDwell_port, TableChange.port (s.releaseHolds_change _)]
  · rw [hfills, countDwell_port, TableChange.port (s.releaseHolds_change _)]

/-- At a port that is not PROJ the tables are as the release of its holds leaves them. -/
theorem frameSettled_tables {s : State} {v : ViewId} {f : FlightFrame} (hv : v ≠ .proj) :
    ∃ ports, frameSettled s v f = { s.releaseHolds f.source with ports := ports } := by
  have hdwell : ∃ ports, (s.releaseHolds f.source).countDwell v f.source =
      { s.releaseHolds f.source with ports := ports } := by
    unfold State.countDwell
    split
    · exact ⟨_, rfl⟩
    · exact ⟨_, rfl⟩
  obtain ⟨ports, hdwell⟩ := hdwell
  unfold frameSettled
  simp only [if_neg hv, hdwell, State.portOff]
  split
  · exact ⟨_, rfl⟩
  · exact ⟨_, rfl⟩

theorem frameEndCounts : Says.FrameEndCounts := by
  intro s v
  refine ⟨fun hnone => ?_, fun f hframe => ⟨_, exec_portFrameEnd hframe, ?_⟩⟩
  · change Host.Outcome.next _ = _
    rw [hnone]
  have h := frameSettled_change s v f
  have hport := frameSettled_port s v f
  have htables := frameSettled_tables (s := s) (v := v) (f := f)
  have hlessons := (releaseHolds_lessonsKept s f.source).lessons
  generalize frameSettled s v f = c at h hport htables
  have hview : ∀ w, c.view w = s.view w := fun w => congrArg (fun x : Trio ViewCtx => x.get w) h.views
  refine ⟨?port, fun w hw => ⟨?otherPort, ?otherView, ?otherBands⟩, ?view, ?bands,
    (congrArg Detail.table h.dte : c.dte.table = s.dte.table),
    (congrArg Detail.light h.dte : c.dte.light = s.dte.light), fun hv => ?tables, h.sin,
    h.pfd, h.matchOn, h.tolerance, h.areas, h.descs, h.op, h.lens, h.active⟩
  case port => rw [frameEnded_port, if_pos rfl, hport]
  case otherPort => rw [frameEnded_port, if_neg hw.symm, h.ports w hw]
  case otherView => rw [frameEnded_view, if_neg hw.symm, hview]
  case otherBands => rw [frameEnded_bands, if_neg hw.symm, h.dte]
  case view => rw [frameEnded_view, if_pos rfl, hview]
  case bands => rw [frameEnded_bands, if_pos rfl, h.dte]
  case tables =>
    obtain ⟨ports, rfl⟩ := htables hv
    exact ⟨rfl, rfl, rfl, hlessons, rfl⟩

/-! ### PROJ's fills at its frame end (R56, R59, R60) -/

theorem countDwell_completeProjFills {u : State} (src : Source) (p : Picture) (h : u.fillsAgree .proj) :
    CompletedTo u (u.fillsIn .proj .capturing) (fun _ => p) u.composedLight
      ((u.countDwell .proj src).completeProjFills p) := by
  unfold State.countDwell
  split
  · next =>
    obtain ⟨owner, page, filled, replaced, slot, lesson, dirty, done, flags, active, views⟩ :=
      foldl_completeFill_completedTo (s := u.modPort .proj fun q => { q with cycle := q.cycle.count }) (fun _ => p)
        u.composedLight (completable_fillsIn (ph := .capturing) h)
    exact ⟨owner, page, filled, replaced, slot, lesson, dirty, done, flags, active, views⟩
  · exact foldl_completeFill_completedTo (fun _ => p) u.composedLight (completable_fillsIn h)

theorem portOff_abortedTo {b : State} (h : OwnedFills b (b.fillsFrom .proj)) :
    AbortedTo b (b.fillsFrom .proj) (b.portOff .proj) := by
  obtain ⟨slot, page, freeBlocks, status, lessons, active, views⟩ :=
    foldl_abortSlot_abortedTo (s := b.modPort .proj fun p => { p with st := .off, stall := 0 })
      (ks := b.fillsFrom .proj) ⟨h.nodup, h.owner⟩
  exact ⟨slot, page, freeBlocks, status, lessons, active, views⟩

/-- The fills completed at PROJ's frame end, and then, where its stop completes, those that waited on aborted. -/
theorem frameSettled_proj {s : State} {f : FlightFrame} (h : (s.releaseHolds f.source).fillsAgree .proj) :
    ∃ b, CompletedTo (s.releaseHolds f.source) ((s.releaseHolds f.source).fillsIn .proj .capturing)
        (fun _ => f.picture) (s.releaseHolds f.source).composedLight b
      ∧ AbortedTo b (if s.ports.proj.st = .stopping then b.fillsFrom .proj else []) (frameSettled s .proj f) := by
  have hb := countDwell_completeProjFills f.source f.picture h
  refine ⟨_, hb, ?_⟩
  change AbortedTo _ _ (if s.ports.proj.st = .stopping then State.portOff _ .proj else _)
  split
  · exact portOff_abortedTo (hb.ownedFills h)
  · exact .nil _

theorem CompletedTo.selRefs {s t : State} {ks : List (Fin 24)} {picture : Fin 24 → Picture} {light : Fin 16}
    (h : CompletedTo s ks picture light t) (i : Fin 64) : (t.page i).selRefs = (s.page i).selRefs := by
  by_cases hi : ∃ k ∈ ks, (s.page i).fill = some k
  · obtain ⟨k, hk, hfill⟩ := hi
    rw [h.owner k hk i hfill]
  · rw [h.page i fun k hk hfill => hi ⟨k, hk, hfill⟩]

theorem AbortedTo.selRefs {s t : State} {ks : List (Fin 24)} (h : AbortedTo s ks t) (i : Fin 64) :
    (t.page i).selRefs = (s.page i).selRefs := by
  rw [h.page]
  split <;> rfl

theorem AbortedTo.flags {s t : State} {ks : List (Fin 24)} (h : AbortedTo s ks t) : FlagsKept s t := by
  have hstatus := h.status
  split at hstatus
  · exact .of_eq hstatus
  · exact .of_or hstatus

theorem AbortedTo.flag {s t : State} {ks : List (Fin 24)} (h : AbortedTo s ks t) {k : Fin 24} (hk : k ∈ ks) :
    t.hasFlag .freezeAborted = true := hasFlag_of_or (by rw [h.status, if_neg (List.ne_nil_of_mem hk)])

theorem projFrameEndSettlesFills : Says.ProjFrameEndSettlesFills := by
  intro s f hframe u hagrees aborted
  refine ⟨_, exec_portFrameEnd hframe, ?_⟩
  obtain ⟨b, hb, hc⟩ := frameSettled_proj hagrees
  have hlight : u.composedLight = s.composedLight := by
    unfold State.composedLight
    rw [(s.releaseHolds_change f.source).pfd]
  rw [hlight] at hb
  generalize hks : (if s.ports.proj.st = .stopping then b.fillsFrom .proj else []) = ks at hc
  have hmem : ∀ k, k ∈ ks ↔ aborted k := fun k => by
    rw [← hks]
    split
    · next hst => exact (hb.mem_fillsFrom hagrees).trans (and_iff_right hst).symm
    · next hst => simp [aborted, hst]
  generalize frameSettled s .proj f = c at hc
  have hslot : ∀ k, (frameEnded c .proj).slot k = if k ∈ ks then (b.slot k).freed else b.slot k := hc.slot
  have hpage : ∀ i, (frameEnded c .proj).page i =
      if ∃ k ∈ ks, (b.page i).fill = some k then { b.page i with fill := none } else b.page i := hc.page
  refine ⟨hb.fillsCompleted ?slots ?apart ?pages ?lessons hc.flags, fun k i hk hi => ?aborted,
    fun i => (hc.selRefs i).trans (hb.selRefs i), fun i hi => ?untouched⟩
  case slots => exact fun k hk => by rw [hslot, if_neg (mt (hmem k).mp hk)]
  case apart =>
    intro k hk
    obtain ⟨-, hst, -, hnot⟩ := hk
    exact ⟨hnot, fun i hi => (hagrees.2 i i k hi).1 hst⟩
  case pages =>
    intro i k hk hi
    rw [hpage, if_neg ?_]
    simp [hb.owner k (mem_fillsIn_capturing.mpr hk) i hi]
  case lessons =>
    intro l hl
    rw [State.lesson, ← hl]
    exact congrArg (fun x : Vector Lesson 8 => x[l].dirty) hc.lessons
  case aborted =>
    obtain ⟨-, hst, -, hnot⟩ := id hk
    have hkfill : (b.page i).fill = some k := (hb.fill_waiting hnot i).mpr hi
    have hbi : b.page i = u.page i := hb.page i fun j hj hfill =>
      hnot (Option.some.inj (hi.symm.trans hfill) ▸ mem_fillsIn_capturing.mp hj)
    refine ⟨?_, ?_, hc.flag ((hmem k).mpr hk)⟩
    · rw [hslot, if_pos ((hmem k).mpr hk), hb.slot_waiting hagrees hst hnot]
    · rw [hpage, if_pos ⟨k, (hmem k).mpr hk, hkfill⟩, hbi]
  case untouched =>
    have hbi : b.page i = u.page i := hb.page i fun k hk hfill => (hi k hfill).1 (mem_fillsIn_capturing.mp hk)
    rw [hpage, if_neg ?_, hbi]
    rintro ⟨k, hk, hfill⟩
    exact (hi k (hbi ▸ hfill)).2 ((hmem k).mp hk)

/-- Settles O38, from what each act of a frame end changes, and the fills completed before those aborted. -/
theorem frameEndReleases : Obligations.FrameEndReleases := ⟨frameEndCounts, projFrameEndSettlesFills⟩

end Sys2Proof.Machine.StillLaws
end

section
/-! SUPPORT. The loss of the sensor where two records name one fill (R60, R68). -/

namespace Sys2Proof.Machine.StillLaws

/-- A FILLING slot of a PAGE fill for record i. -/
def pageFill (x : Slot) (i : Fin 64) : Slot :=
  { x with st := .filling, source := some .page, record := some ⟨i, 1⟩ }

/-- PAGE fills in slots 0 and 3 for records 8 and 7, with slot 3 the fill pending of both records: R50 excludes it, but
the statement on INTAKE_TIMEOUT has no such premise. -/
def sharedFill : State :=
  let s : State := { State.reset with sin := { Intake.reset with st := .running } }
  let s := (s.modSlot 0 fun x => pageFill x 8).modSlot 3 fun x => pageFill x 7
  (s.modPage 7 fun r => { r with fill := some 3 }).modPage 8 fun r => { r with fill := some 3 }

/-- The statement's premises hold of slot 3 and record 7. -/
theorem sharedFill_premises :
    sharedFill.sin.st ≠ .lost ∧ (sharedFill.slot 3).st = .filling ∧ (sharedFill.slot 3).source = some .page
      ∧ (sharedFill.slot 3).record = some ⟨7, 1⟩ ∧ (sharedFill.page 7).fill = some 3 := by decide +kernel

/-- The abort at slot 0 frees slot 3 through record 8; the abort at slot 3 then finds no record there, and record 7
keeps its fill pending. -/
theorem sharedFill_loseSensor : (sharedFill.loseSensor.page 7).fill = some 3 := by decide +kernel

theorem not_intakeTimeoutLosesSensor : ¬ Says.IntakeTimeoutLosesSensor := by
  intro h
  obtain ⟨hst, hfilling, hsource, hrecord, hfill⟩ := sharedFill_premises
  obtain ⟨t, hexec, -, -, -, -, -, haborts, -⟩ := (h sharedFill).2 hst
  have ht : sharedFill.loseSensor = t := by
    have hlose : exec .intakeTimeout sharedFill = .next sharedFill.loseSensor := congrArg Host.Outcome.next (if_neg hst)
    exact Host.Outcome.next.inj (hlose.symm.trans hexec)
  obtain ⟨-, hnone, -⟩ := haborts 3 ⟨7, 1⟩ hfilling hsource hrecord hfill
  rw [← ht, sharedFill_loseSensor] at hnone
  exact Option.some_ne_none 3 hnone

/-- Refutes O20: its last part, on INTAKE_TIMEOUT, fails where two records of the store name one fill. -/
theorem not_intakeFrames : ¬ Obligations.IntakeFrames := fun ⟨_, _, _, _, htimeout⟩ =>
  not_intakeTimeoutLosesSensor htimeout

end Sys2Proof.Machine.StillLaws
end

section
/-! SUPPORT. FIND.READ, DETAIL.READ, BRIDGE.RESULT, VIEW.READ and PORT.READ (R88, R113, R114, R116, R134, R150,
R175). -/

namespace Sys2Proof.Machine.SettingsLaws

open LessonLaws StillLaws

/-! ### Reads of a view set (R116) -/

theorem lowestView_of_lowestIn {vs : ViewSet} {v : ViewId} (h : lowestIn vs v) : lowestView vs = v := by
  obtain ⟨hin, -, hlower⟩ := h
  cases v with
  | proj => simp [lowestView, viewsOf, ViewId.all, hin]
  | strm => simp [lowestView, viewsOf, ViewId.all, hin, hlower .proj (by decide)]
  | panel => simp [lowestView, viewsOf, ViewId.all, hin, hlower .proj (by decide), hlower .strm (by decide)]

theorem ne_zero_of_lowestIn {vs : ViewSet} {v : ViewId} (h : lowestIn vs v) : vs ≠ 0 := by
  rintro rfl
  have hin := h.1
  simp [ViewId.inSet] at hin

/-- A read of a view set makes the set's own checks alone. -/
theorem conclude_setRead (s : State) (vs : ViewSet) (body : ReplyBody) :
    conclude (guarded s (setChecks vs) (doneWith s body)) = forSet s vs (answers s .ok body) := by
  rw [← List.append_nil (setChecks vs), conclude_setChecks]
  rfl

theorem forSet_of_lowestIn {s : State} {vs : ViewSet} {v : ViewId} (h : lowestIn vs v)
    (go : Host.Outcome State Fault Refusal) : forSet s vs go = go := by
  rw [forSet, if_neg (Nat.not_le.mpr h.2.1), if_neg (ne_zero_of_lowestIn h)]

theorem exec_viewRead (vs : ViewSet) (s : State) :
    exec (.viewRead vs) s = forSet s vs (answers s .ok (.view (lowestView vs) (s.view (lowestView vs)))) :=
  conclude_setRead s vs _

theorem exec_portRead (vs : ViewSet) (s : State) :
    exec (.portRead vs) s = forSet s vs (answers s .ok (.port (s.portReply (lowestView vs)))) :=
  conclude_setRead s vs _

theorem exec_detailReadBandSet (vs : ViewSet) (s : State) :
    exec (.detailReadBandSet vs) s =
      forSet s vs (answers s .ok (.bandSet (s.dte.bandSets.get (lowestView vs)))) :=
  conclude_setRead s vs _

/-! ### The statements -/

theorem findReadReturnsFinder : Says.FindReadReturnsFinder := fun s => conclude_doneWith s (.finder s.finderReply)

theorem bridgeResultReturnsState : Says.BridgeResultReturnsState := fun s => conclude_doneWith s (.bridge s.lens.reply)

theorem viewAndPortReads : Says.ViewAndPortReads := by
  intro s vs v h
  rw [exec_viewRead, exec_portRead, forSet_of_lowestIn h, forSet_of_lowestIn h, lowestView_of_lowestIn h]
  exact ⟨rfl, rfl⟩

theorem readsCheckTheSet : Says.ReadsCheckTheSet := by
  intro s vs c hc
  have hread : ∃ go, exec c s = forSet s vs go := by
    simp only [List.mem_cons, List.not_mem_nil, or_false] at hc
    rcases hc with rfl | rfl | rfl
    · exact ⟨_, exec_viewRead vs s⟩
    · exact ⟨_, exec_portRead vs s⟩
    · exact ⟨_, exec_detailReadBandSet vs s⟩
  obtain ⟨go, hgo⟩ := hread
  refine ⟨fun hrange => ?range, fun hzero => ?target⟩
  case range => rw [hgo, forSet, if_pos hrange]
  case target => rw [hgo, hzero]; rfl

theorem detailReadReturns : Says.DetailReadReturns := by
  intro s
  refine ⟨conclude_doneWith s _, fun vs v h => ?bands, ?empty⟩
  case bands => rw [exec_detailReadBandSet, forSet_of_lowestIn h, lowestView_of_lowestIn h]
  case empty => exact (readsCheckTheSet s 0 (.detailReadBandSet 0) (by simp)).2 rfl

/-- Settles O28: every read answers what the state holds, and those of a view set make the set's checks first. -/
theorem settingsReads : Obligations.SettingsReads :=
  ⟨findReadReturnsFinder, detailReadReturns, bridgeResultReturnsState, viewAndPortReads, readsCheckTheSet⟩

end Sys2Proof.Machine.SettingsLaws
end

section
/-! SUPPORT. FIND.SETUP, FIND.CLEAR and LENS.SETUP (R82, R87, R89, R170). -/

namespace Sys2Proof.Machine.SettingsLaws

open LessonLaws StillLaws

/-! ### Items out of range -/

theorem badItem_iff {α : Type} (item : Option (Code α)) : badItem item = true ↔ item = some .other := by
  cases item with
  | none => simp [badItem]
  | some c => cases c <;> simp [badItem, Code.bad]

/-! ### FIND.SETUP and FIND.CLEAR (R87, R89) -/

theorem FindForm_isEmpty_iff (form : FindForm) :
    form.isEmpty = true ↔
      form.settle = none ∧ form.missing = none ∧ form.motion = none ∧ form.focusLow = none ∧ form.dark = none
        ∧ form.bright = none ∧ form.glare = none ∧ form.tracking = none ∧ form.report = none := by
  simp [FindForm.isEmpty, and_assoc]

theorem FindForm_bad_iff (form : FindForm) :
    form.bad = true ↔
      (∃ n, form.settle = some n ∧ (n < 1 ∨ 30 < n)) ∨ (∃ n, form.missing = some n ∧ (n < 1 ∨ 30 < n))
        ∨ (∃ n, form.motion = some n ∧ 255 < n) ∨ (∃ n, form.focusLow = some n ∧ 255 < n)
        ∨ (∃ n, form.dark = some n ∧ 15 < n) ∨ (∃ n, form.bright = some n ∧ 15 < n)
        ∨ (∃ n, form.glare = some n ∧ 100 < n) ∨ form.tracking = some .other ∨ form.report = some .other := by
  simp only [FindForm.bad, Bool.or_eq_true, outside_iff, badItem_iff, Nat.not_lt_zero, false_or, or_assoc]

theorem findSetupWritesSettings : Says.FindSetupWritesSettings := by
  intro s lvl settle missing motion focusLow dark bright glare tracking report
  have hlimits (x : FinderSettings) : decide (x.bright ≤ x.dark) = true ↔ x.bright ≤ x.dark := decide_eq_true_iff
  refine (conclude_check s (FindForm_isEmpty_iff _) .argument _ _).trans ?_
  rw [conclude_check s (FindForm_bad_iff _), conclude_check s (hlimits _), conclude_ownerCheck]
  -- What stands after the write is read off once it is known which coded items are absent, values, or neither.
  rcases tracking with - | - | - <;> rcases report with - | - | - <;> rfl

theorem findClearEmptiesReport : Says.FindClearEmptiesReport := fun _ => rfl

/-! ### LENS.SETUP (R170) -/

theorem LensForm_isEmpty_iff (form : LensForm) :
    form.isEmpty = true ↔
      form.lensAddr = none ∧ form.lampAddr = none ∧ form.autoLamp = none ∧ form.autoFocus = none
        ∧ form.rate = none := by
  simp [LensForm.isEmpty, and_assoc]

theorem LensForm_bad_iff (form : LensForm) :
    form.bad = true ↔
      (∃ n, form.lensAddr = some n ∧ 0x7F < n) ∨ (∃ n, form.lampAddr = some n ∧ 0x7F < n)
        ∨ form.autoLamp = some .other ∨ form.autoFocus = some .other ∨ form.rate = some .other := by
  simp only [LensForm.bad, Bool.or_eq_true, outside_iff, badItem_iff, Nat.not_lt_zero, false_or, or_assoc]

/-- The lamp counters are 0 while auto-lamp is off (R82). -/
theorem lensSetup_eq (s : State) (form : LensForm) :
    s.lensSetup form =
      { s with
        lens := s.lens.setup form
        pfd := if itemOr form.autoLamp s.lens.autoLamp then s.pfd
          else { s.pfd with darkCount := 0, brightCount := 0 } } := by
  have hlamp : (s.modLens fun x => x.setup form).lens.autoLamp = itemOr form.autoLamp s.lens.autoLamp := rfl
  unfold State.lensSetup
  dsimp only
  rw [hlamp]
  split <;> rfl

theorem lensSetupWritesItems : Says.LensSetupWritesItems := by
  intro s lvl lensAddr lampAddr autoLamp autoFocus rate
  have hsame (a b : BitVec 7) : (a == b) = true ↔ a = b := beq_iff_eq
  refine (conclude_check s (LensForm_isEmpty_iff _) .argument _ _).trans ?_
  rw [conclude_check s (LensForm_bad_iff _), conclude_check s (hsame _ _), conclude_ownerCheck, lensSetup_eq]
  -- As for FIND.SETUP: each coded item is absent, a value, or neither.
  rcases autoLamp with - | - | - <;> rcases autoFocus with - | - | - <;> rcases rate with - | - | - <;> rfl

/-- Settles O29: each command's checks in the order of its rule, then the named items written over those that stand. -/
theorem settingsWrites : Obligations.SettingsWrites :=
  ⟨findSetupWritesSettings, findClearEmptiesReport, lensSetupWritesItems⟩

end Sys2Proof.Machine.SettingsLaws
end

section
/-! SUPPORT. The ends of AUTO transactions on the lens bus (R83 to R86, R168, R173). -/

namespace Sys2Proof.Machine.LensLaws

/-! ### What the Page Finder takes from an AUTO transaction (R83 to R86) -/

/-- The Page Finder and the attention flags once the AUTO request's transaction has ended: a NACK also raises
LENS_FAULT. -/
def autoOutcome (s : State) (r : AutoReq) (ack : Bool) (b : Byte) : State :=
  if ack then s.takeAuto r ack b else (s.takeAuto r ack b).setFlag .lensFault

section
variable {r : AutoReq} (s : State) (b : Byte)

theorem autoOutcome_lampSet_ack {level : Fin 16} {sync : Bool} (hkind : r.kind = .lampSet level sync) :
    autoOutcome s r true b = { s with pfd := { s.pfd with lamp := level } } := by
  simp only [autoOutcome, State.takeAuto, hkind, if_true]
  rfl

/-- A lamp write that failed is offered again where it was a sync, and is otherwise lost (R83). -/
theorem autoOutcome_lampSet_nack {level : Fin 16} {sync : Bool} (hkind : r.kind = .lampSet level sync) :
    autoOutcome s r false b =
      { s with
        pfd := { s.pfd with syncPending := s.pfd.syncPending || sync }
        link := { s.link with status := s.link.status ||| Flag.only .lensFault } } := by
  simp only [autoOutcome, State.takeAuto, hkind, Bool.false_eq_true, if_false]
  cases sync
  · rw [Bool.or_false]; rfl
  · rw [Bool.or_true]; rfl

theorem takeAuto_orphan (hkind : r.kind = .focusStart ∨ r.kind = .focusPoll) (horphan : r.orphan = true)
    (ack : Bool) : s.takeAuto r ack b = s := by
  rcases hkind with hkind | hkind <;> simp only [State.takeAuto, hkind, horphan, if_true]

/-- The outcome of a cancelled run's transaction is disregarded, but for the NACK itself (R86). -/
theorem autoOutcome_orphan (hkind : r.kind = .focusStart ∨ r.kind = .focusPoll) (horphan : r.orphan = true)
    (ack : Bool) : autoOutcome s r ack b = if ack then s else s.setFlag .lensFault := by
  rw [autoOutcome, takeAuto_orphan s b hkind horphan]

/-- A NACK ends the focus run (R84, R85, R86). -/
theorem autoOutcome_run_nack (hkind : r.kind = .focusStart ∨ r.kind = .focusPoll) (horphan : r.orphan = false) :
    autoOutcome s r false b =
      { s with
        pfd := { s.pfd with run := .idle, outcome := .nack }
        link := { s.link with status := s.link.status ||| Flag.only .focusDone ||| Flag.only .lensFault } } := by
  have hnack : s.takeAuto r false b = s.endRun .nack := by
    rcases hkind with hkind | hkind <;> simp only [State.takeAuto, hkind, horphan, Bool.false_eq_true, if_false]
  rw [autoOutcome, hnack]
  rfl

theorem autoOutcome_focusStart_ack (hkind : r.kind = .focusStart) (horphan : r.orphan = false) :
    autoOutcome s r true b = { s with pfd := { s.pfd with run := .polling } } := by
  simp only [autoOutcome, State.takeAuto, hkind, horphan, Bool.false_eq_true, if_false, if_true]
  rfl

theorem autoOutcome_focusPoll_ack (hkind : r.kind = .focusPoll) (horphan : r.orphan = false) :
    autoOutcome s r true b = s.pollEnd b := by
  simp only [autoOutcome, State.takeAuto, hkind, horphan, Bool.false_eq_true, if_false, if_true]

/-! ### The byte a poll reads (R85) -/

theorem endRun_eq (o : FocusOutcome) :
    s.endRun o =
      { s with
        pfd := { s.pfd with run := .idle, outcome := o }
        link := { s.link with status := s.link.status ||| Flag.only .focusDone } } := rfl

theorem pollEnd_failed (hfail : b.getLsbD 1 = true) : s.pollEnd b = s.endRun .failed := by
  simp only [State.pollEnd, hfail, if_true]

theorem pollEnd_done (hfail : b.getLsbD 1 = false) (hbusy : b.getLsbD 0 = false) : s.pollEnd b = s.endRun .done := by
  simp only [State.pollEnd, hfail, hbusy, Bool.false_eq_true, if_false]

theorem pollEnd_busy (hfail : b.getLsbD 1 = false) (hbusy : b.getLsbD 0 = true) :
    s.pollEnd b =
      if 30 ≤ s.pfd.busyPolls + 1 then
        ({ s with pfd := { s.pfd with busyPolls := s.pfd.busyPolls + 1 } } : State).endRun .timeout
      else { s with pfd := { s.pfd with busyPolls := s.pfd.busyPolls + 1 } } := by
  simp only [State.pollEnd, hfail, hbusy, Bool.false_eq_true, if_false, if_true]
  rfl

end

/-! ### The end of the transaction (R173) -/

/-- The lens bus once the AUTO transaction has left it, before the arbiter acts. -/
def autoGone (x : Lens) (lines : List BusEvent) : Lens :=
  { x with bus := .idle, carried := none, lines := lines, auto := none }

/-- With the AUTO request's transaction on the bus, its end gives the outcome, and the arbiter acts last. -/
theorem lensEnd_auto {s : State} {r : AutoReq} (hbus : s.lens.bus = .autoOnBus) (hauto : s.lens.auto = some r)
    (ack : Bool) (data : Vector Byte 8) (lines : List BusEvent) :
    s.lensEnd ack data lines =
      (autoOutcome { s with lens := autoGone s.lens lines } r ack data[0]).modLens Lens.arbitrate := by
  simp only [State.lensEnd, hbus, hauto]
  rfl

/-- The outcome given, the end of an AUTO transaction written out. -/
theorem lensEnd_auto_eq {s : State} {r : AutoReq} (hbus : s.lens.bus = .autoOnBus) (hauto : s.lens.auto = some r)
    {ack : Bool} {data : Vector Byte 8} {lines : List BusEvent} {pfd : Finder} {status : FlagSet}
    (houtcome : ∀ x : Lens, autoOutcome { s with lens := x } r ack data[0] =
      { s with lens := x, pfd := pfd, link := { s.link with status := status } }) :
    s.lensEnd ack data lines =
      { s with
        lens := (autoGone s.lens lines).arbitrate
        pfd := pfd
        link := { s.link with status := status } } := by
  rw [lensEnd_auto hbus hauto, houtcome]
  rfl

theorem exec_lensTransactionEnd {s : State} {c : Carried} (hcarried : s.lens.carried = some c) (acked : Nat)
    (data : Vector Byte 8) :
    exec (.lensTransactionEnd acked data) s =
      .next (s.lensEnd (decide (c.tx.acksNeeded ≤ acked)) data (untilNack acked (c.tx.events data))) :=
  congrArg Host.Outcome.next (s.transactionEnd_some acked data c hcarried)

/-- Settles O31, by the request's kind, whether its run was cancelled, and the byte a poll reads. -/
theorem autoTransactionEnds : Obligations.AutoTransactionEnds := by
  intro s acked data r c hbus hauto hcarried ack old ends
  have hends {pfd : Finder} {status : FlagSet}
      (houtcome : ∀ x : Lens, autoOutcome { s with lens := x } r ack data[0] =
        { s with lens := x, pfd := pfd, link := { s.link with status := status } }) : ends pfd status :=
    (exec_lensTransactionEnd hcarried acked data).trans
      (congrArg Host.Outcome.next (lensEnd_auto_eq hbus hauto houtcome))
  refine ⟨fun level sync hkind => ⟨fun hack => ?lampAck, fun hack => ?lampNack⟩,
    fun hkind => ⟨fun horphan => ⟨fun hack => ?orphanAck, fun hack => ?orphanNack⟩, fun horphan hack => ?runNack⟩,
    fun hkind horphan hack => ?startAck, fun hkind horphan hack => ?pollAck⟩
  case lampAck => exact hends fun x => by rw [hack, autoOutcome_lampSet_ack _ _ hkind]
  case lampNack => exact hends fun x => by rw [hack, autoOutcome_lampSet_nack _ _ hkind]
  case orphanAck => exact hends fun x => by rw [hack, autoOutcome_orphan _ _ hkind horphan]; rfl
  case orphanNack => exact hends fun x => by rw [hack, autoOutcome_orphan _ _ hkind horphan]; rfl
  case runNack => exact hends fun x => by rw [hack, autoOutcome_run_nack _ _ hkind horphan]
  case startAck => exact hends fun x => by rw [hack, autoOutcome_focusStart_ack _ _ hkind horphan]
  case pollAck =>
    have hpoll (x : Lens) : autoOutcome { s with lens := x } r ack data[0] =
        ({ s with lens := x } : State).pollEnd data[0] := by
      rw [hack, autoOutcome_focusPoll_ack _ _ hkind horphan]
    refine ⟨fun hfail => ?failed, fun hfail hbusy => ?done,
      fun hfail hbusy => ⟨fun hfew => ?again, fun hlast => ?timeout⟩⟩
    case failed => exact hends fun x => by rw [hpoll, pollEnd_failed _ _ hfail, endRun_eq]
    case done => exact hends fun x => by rw [hpoll, pollEnd_done _ _ hfail hbusy, endRun_eq]
    case again => exact hends fun x => by rw [hpoll, pollEnd_busy _ _ hfail hbusy, if_neg (Nat.not_le.mpr hfew)]
    case timeout =>
      exact hends fun x => by rw [hpoll, pollEnd_busy _ _ hfail hbusy, if_pos hlast.ge, endRun_eq, hlast]

end Sys2Proof.Machine.LensLaws
end


section
/-! SUPPORT. The arbiter, the bridge commands and the transactions of the requests (R168, R171, R172, R174). -/

namespace Sys2Proof.Machine.LensLaws

open LessonLaws StillLaws SettingsLaws

/-! ### The arbiter (R172) -/

theorem arbitrate_auto {x : Lens} (hbus : x.bus = .idle) (hauto : x.auto.isSome = true)
    (hturn : x.bridge = none ∨ x.turn = .auto) : x.arbitrate = x.beginAuto := by
  rw [Lens.arbitrate, if_pos hbus, hauto]
  cases hbridge : x.bridge with
  | none => rfl
  | some r => rw [hturn.resolve_left (by simp [hbridge])]; rfl

theorem arbitrate_bridge {x : Lens} {r : BridgeReq} (hbus : x.bus = .idle) (hbridge : x.bridge = some r)
    (hturn : x.auto = none ∨ x.turn = .bridge) :
    x.arbitrate =
      { x with bus := .bridgeOnBus, turn := .auto, carried := some ⟨r.transaction, x.rate⟩,
               bridge := some { r with onBus := true } } := by
  have hbegin : x.arbitrate = x.beginBridge := by
    rw [Lens.arbitrate, if_pos hbus, hbridge]
    cases hauto : x.auto with
    | none => rfl
    | some q => rw [hturn.resolve_left (by simp [hauto])]; rfl
  rw [hbegin, Lens.beginBridge, hbridge]
  rfl

theorem arbitrate_nothing {x : Lens} (hauto : x.auto = none) (hbridge : x.bridge = none) : x.arbitrate = x := by
  rw [Lens.arbitrate, hauto, hbridge]
  split <;> rfl

theorem arbiterTakesTurns : Says.ArbiterTakesTurns := fun x =>
  ⟨x.arbitrate_busy, fun _ => arbitrate_nothing, arbitrate_auto, fun _ => arbitrate_bridge⟩

/-! ### BRIDGE.WRITE and BRIDGE.READ (R174) -/

theorem exec_bridgeWrite (lvl : Level) (device : Code Device) (reg : Byte) (data : List Byte) (s : State) :
    exec (.bridgeWrite lvl ⟨device, reg, data⟩) s =
      if data = [] ∨ 8 < data.length then answers s .argument .empty
      else if device = .other then answers s .range .empty
      else if lvl = .presenter then answers s .locked .empty
      else if s.lens.bridge.isSome = true then answers s .busy .empty
      else answers (s.modLens fun x => x.queueBridge (.write data) (device.getD .lens) reg) .accepted .empty := by
  have hdata : (data.isEmpty || decide (8 < data.length)) = true ↔ data = [] ∨ 8 < data.length := by simp
  have hdevice : device.bad = true ↔ device = .other := by cases device <;> simp [Code.bad]
  have howner : (!lvl.passes .owner) = true ↔ lvl = .presenter := by cases lvl <;> decide
  refine (conclude_check s hdata .argument _ _).trans ?_
  rw [conclude_check s hdevice, ownerCheck, conclude_check s howner, conclude_check s Iff.rfl]
  rfl

theorem exec_bridgeRead (lvl : Level) (device : Code Device) (reg : Byte) (count : Nat) (s : State) :
    exec (.bridgeRead lvl (some ⟨device, reg, count⟩)) s =
      if device = .other ∨ count < 1 ∨ 8 < count then answers s .range .empty
      else if lvl = .presenter then answers s .locked .empty
      else if s.lens.bridge.isSome = true then answers s .busy .empty
      else answers (s.modLens fun x => x.queueBridge (.read count) (device.getD .lens) reg) .accepted .empty := by
  have hform : (device.bad || decide (count < 1) || decide (8 < count)) = true ↔
      device = .other ∨ count < 1 ∨ 8 < count := by cases device <;> simp [Code.bad]
  have howner : (!lvl.passes .owner) = true ↔ lvl = .presenter := by cases lvl <;> decide
  refine (conclude_check s hform .range _ _).trans ?_
  rw [ownerCheck, conclude_check s howner, conclude_check s Iff.rfl]
  rfl

theorem addrOf_eq_address (x : Lens) (d : Device) : x.addrOf d = x.address d := by cases d <;> rfl

theorem not_presenter_of_owner {lvl : Level} (h : Level.owner.rank ≤ lvl.rank) : lvl ≠ .presenter := by
  rintro rfl
  exact absurd h (by decide)

theorem bridgeCommandsQueue : Says.BridgeCommandsQueue := by
  intro s lvl device reg hlvl
  have howner := not_presenter_of_owner hlvl
  have hval : Code.val device ≠ .other := nofun
  have hqueue (k : BusAct) : (s.modLens fun x => x.queueBridge k device reg) =
      { s with
        lens := { s.lens with bridge := some ⟨k, device, s.lens.address device, reg, false⟩ }.arbitrate } := by
    rw [← addrOf_eq_address]; rfl
  refine ⟨fun data hpos hlen => ?write, rfl, fun count hpos hlen => ?read⟩
  case write =>
    have hdata : ¬ (data = [] ∨ 8 < data.length) := by
      rintro (rfl | h)
      · exact absurd hpos (by decide)
      · omega
    rw [exec_bridgeWrite, if_neg hdata, if_neg hval, if_neg howner, ← hqueue]
    exact ⟨fun hnone => if_neg (by simp [hnone]), fun hsome => if_pos hsome⟩
  case read =>
    have hform : ¬ (Code.val device = .other ∨ count < 1 ∨ 8 < count) := by simp only [hval, false_or]; omega
    rw [exec_bridgeRead, if_neg hform, if_neg howner, ← hqueue]
    exact ⟨fun hnone => if_neg (by simp [hnone]), fun hsome => if_pos hsome⟩

theorem bridgeCommandsRefused : Says.BridgeCommandsRefused := by
  intro s lvl reg
  refine ⟨fun device data => ⟨fun hdata => ?argument,
      fun hpos hlen => ⟨fun hdevice => ?device, fun hdevice hlvl => ?locked⟩⟩,
    rfl, fun device count => ⟨fun hform => ?range, fun hdevice hpos hlen hlvl => ?readLocked⟩⟩
  case argument => rw [exec_bridgeWrite, if_pos hdata]
  case range => rw [exec_bridgeRead, if_pos hform]
  case readLocked =>
    have hform : ¬ (device = .other ∨ count < 1 ∨ 8 < count) := by simp only [hdevice, false_or]; omega
    rw [exec_bridgeRead, if_neg hform, if_pos hlvl]
  all_goals
    have hdata : ¬ (data = [] ∨ 8 < data.length) := by
      rintro (rfl | h)
      · exact absurd hpos (by decide)
      · omega
    rw [exec_bridgeWrite, if_neg hdata]
  case device => rw [if_pos hdevice]
  case locked => rw [if_neg hdevice, if_pos hlvl]

/-! ### The transactions of the requests (R171, R174) -/

theorem queueAuto_waits {x : Lens} (k : AutoKind) (hbus : x.bus ≠ .idle) :
    x.queueAuto k =
      { x with auto := some ⟨k, (match k with | .lampSet _ _ => x.lampAddr | _ => x.lensAddr), false⟩ } := by
  cases k <;> exact Lens.arbitrate_busy _ hbus

theorem transactionsOfRequests : Says.TransactionsOfRequests :=
  ⟨fun _ _ _ _ => rfl, fun _ _ => ⟨rfl, rfl⟩, fun _ => rfl, fun _ k hbus => queueAuto_waits k hbus⟩

/-! ### What goes over the bus (R168) -/

theorem untilNack_cons_of_needsNoAck (n : Nat) {e : BusEvent} (h : e.needsAck = false) (rest : List BusEvent) :
    untilNack n (e :: rest) = e :: untilNack n rest := by
  cases n <;> simp [untilNack, h]

/-- Bytes the device need not acknowledge pass whatever it does. -/
theorem untilNack_received (n : Nat) {received rest : List BusEvent} (h : ∀ e ∈ received, e.needsAck = false) :
    untilNack n (received ++ rest) = received ++ untilNack n rest := by
  induction received with
  | nil => rfl
  | cons e received ih =>
    rw [List.cons_append, untilNack_cons_of_needsNoAck n (h e List.mem_cons_self),
      ih fun e he => h e (List.mem_cons_of_mem _ he), List.cons_append]

/-- Bytes sent, of which the device acknowledges fewer than there are: they go out up to the one it refuses. -/
theorem untilNack_sent_cut {n : Nat} {bytes : List Byte} (h : n < bytes.length) (rest : List BusEvent) :
    untilNack n (bytes.map BusEvent.sent ++ rest) = (bytes.take (n + 1)).map BusEvent.sent ++ [.stop] := by
  induction bytes generalizing n with
  | nil => exact absurd h (Nat.not_lt_zero n)
  | cons b bytes ih =>
    cases n with
    | zero => rfl
    | succ n =>
      have htail : untilNack n (bytes.map BusEvent.sent ++ rest) = _ := ih (Nat.lt_of_succ_lt_succ h)
      show BusEvent.sent b :: untilNack n (bytes.map BusEvent.sent ++ rest) = _
      rw [htail]
      rfl

/-- Bytes sent that the device acknowledges all go out. -/
theorem untilNack_sent_whole (n : Nat) (bytes : List Byte) (rest : List BusEvent) :
    untilNack (bytes.length + n) (bytes.map BusEvent.sent ++ rest) = bytes.map BusEvent.sent ++ untilNack n rest := by
  induction bytes with
  | nil => rw [List.length_nil, Nat.zero_add]; rfl
  | cons b bytes ih =>
    rw [List.length_cons, Nat.add_right_comm]
    exact congrArg (BusEvent.sent b :: ·) ih

theorem receivedBytes_needNoAck (data : Vector Byte 8) (count : Nat) :
    ∀ e ∈ receivedBytes data count, e.needsAck = false := by
  intro e he
  obtain ⟨i, -, rfl⟩ := List.mem_map.mp he
  rfl

theorem untilNack_events_whole (t : Transaction) (data : Vector Byte 8) {n : Nat} (h : t.acksNeeded ≤ n) :
    untilNack n (t.events data) = t.events data := by
  obtain ⟨addr, reg, act⟩ := t
  cases act with
  | write bytes =>
    obtain ⟨m, rfl⟩ := Nat.exists_eq_add_of_le h
    have hn : Transaction.acksNeeded ⟨addr, reg, .write bytes⟩ + m = bytes.length + m + 2 := by
      show 2 + bytes.length + m = _
      omega
    rw [hn]
    exact congrArg ([BusEvent.start, .address addr .write, .sent reg] ++ ·) (untilNack_sent_whole m bytes [.stop])
  | read count =>
    obtain ⟨m, rfl⟩ := Nat.exists_eq_add_of_le' (show 3 ≤ n from h)
    exact congrArg ([BusEvent.start, .address addr .write, .sent reg, .restart, .address addr .read] ++ ·)
      (untilNack_received m (rest := [.stop]) (receivedBytes_needNoAck data count))

theorem untilNack_write_cut (addr : BitVec 7) (reg : Byte) {bytes : List Byte} (data : Vector Byte 8) {n : Nat}
    (h : n < bytes.length) :
    untilNack (n + 2) (Transaction.events ⟨addr, reg, .write bytes⟩ data) =
      [.start, .address addr .write, .sent reg] ++ (bytes.take (n + 1)).map BusEvent.sent ++ [.stop] :=
  congrArg ([BusEvent.start, .address addr .write, .sent reg] ++ ·) (untilNack_sent_cut h [.stop])

theorem transactionsOnTheBus : Says.TransactionsOnTheBus := by
  refine ⟨fun addr reg bytes data n => ⟨rfl, rfl, fun hlow hhigh => ?cut, ?held⟩,
    fun addr reg count data => ⟨rfl, rfl, rfl, fun n => ?readHeld⟩, fun t data n => ⟨?whole, ?first, ?second⟩⟩
  case cut =>
    obtain ⟨m, rfl⟩ := Nat.exists_eq_add_of_le' hlow
    exact untilNack_write_cut addr reg data (by omega)
  case held => exact untilHeld_events _ data n
  case readHeld => exact untilHeld_events _ data n
  case whole => exact untilNack_events_whole t data
  case first => rfl
  case second => rfl

end Sys2Proof.Machine.LensLaws
end

section
/-! SUPPORT. The ends of bridge transactions, and a clock held low (R168, R169, R173). -/

namespace Sys2Proof.Machine.LensLaws

/-! ### The end of a bridge transaction (R173) -/

theorem lensEnd_bridge {s : State} {r : BridgeReq} (hbus : s.lens.bus = .bridgeOnBus)
    (hbridge : s.lens.bridge = some r) (ack : Bool) (data : Vector Byte 8) (lines : List BusEvent) :
    s.lensEnd ack data lines =
      { s with
        lens := (({ s.lens with lines := lines } : Lens).endBridge r ack data).arbitrate
        link := { s.link with status := s.link.status ||| Flag.only .bridgeDone } } := by
  simp only [State.lensEnd, hbus, hbridge]
  rfl

theorem endBridge_write (x : Lens) {r : BridgeReq} {w : List Byte} (hkind : r.kind = .write w) (ack : Bool)
    (data : Vector Byte 8) :
    x.endBridge r ack data =
      { x with bus := .idle, carried := none, bridge := none,
               outcome := some ⟨ack, .write, r.device, r.reg, w.length⟩ } := by
  simp only [Lens.endBridge, BridgeReq.outcome, hkind]

/-- A read that ends with NACK delivers no byte (R173). -/
theorem endBridge_read (x : Lens) {r : BridgeReq} {n : Nat} (hkind : r.kind = .read n) (ack : Bool)
    (data : Vector Byte 8) :
    x.endBridge r ack data =
      { x with bus := .idle, carried := none, bridge := none,
               outcome := some ⟨ack, .read, r.device, r.reg, n⟩,
               buffer := if ack then readBuffer data n else .replicate 8 0, valid := if ack then n else 0 } := by
  simp only [Lens.endBridge, BridgeReq.outcome, hkind]
  cases ack <;> rfl

theorem readBuffer_or_zero (ack : Bool) (data : Vector Byte 8) (n : Nat) :
    (if ack then readBuffer data n else .replicate 8 0) =
      Vector.ofFn fun i : Fin 8 => if ack ∧ i.val < n then data[i] else 0 := by
  cases ack <;> ext i hi <;> simp [readBuffer]

theorem bridgeTransactionEnds : Says.BridgeTransactionEnds := by
  intro s acked data r c hbus hbridge hcarried ack lines
  refine ⟨({ s.lens with lines := lines } : Lens).endBridge r ack data, ?ends, fun w hkind => ?write,
    fun n hkind => ?read⟩
  case ends =>
    exact (exec_lensTransactionEnd hcarried acked data).trans
      (congrArg Host.Outcome.next (lensEnd_bridge hbus hbridge ack data lines))
  case write => rw [endBridge_write _ hkind]
  case read => rw [endBridge_read _ hkind, readBuffer_or_zero]

/-! ### A transaction that drains, and none at all (R169) -/

theorem lensEnd_draining {s : State} (hbus : s.lens.bus = .draining) (ack : Bool) (data : Vector Byte 8)
    (lines : List BusEvent) :
    s.lensEnd ack data lines =
      { s with lens := { s.lens with bus := .idle, carried := none, lines := lines }.arbitrate } := by
  simp only [State.lensEnd, hbus]
  rfl

theorem heldClockAndDraining : Says.HeldClockAndDraining := by
  intro s n data
  refine ⟨fun hnone => ⟨?held, ?ended⟩, fun c hcarried hbus => ?draining⟩
  case held => exact congrArg Host.Outcome.next (s.clockHeld_none hnone)
  case ended => exact congrArg Host.Outcome.next (s.transactionEnd_none n data hnone)
  case draining => rw [exec_lensTransactionEnd hcarried, lensEnd_draining hbus]

/-! ### A clock held low (R168) -/

theorem heldClockEnds : Says.HeldClockEnds := by
  intro s c hcarried
  obtain ⟨n, given, hheld⟩ := s.clockHeld_some c hcarried
  have hexec : exec .clockHoldTimeout s = .next s.clockHeld := rfl
  refine ⟨n, given, fun hbus => ?draining, fun r hbus hauto => ?auto, fun r hbus hbridge => ?bridge⟩
  case draining => rw [hexec, hheld, lensEnd_draining (by exact hbus)]; rfl
  case auto =>
    have hends {pfd : Finder} {status : FlagSet}
        (houtcome : ∀ x : Lens, autoOutcome { s with lens := x } r false given[0] =
          { s with lens := x, pfd := pfd, link := { s.link with status := status } }) :=
      lensEnd_auto_eq (s := s.modLens fun x => { x with heldClocks := x.heldClocks + 1 })
        (lines := untilHeld n (c.tx.events given)) hbus hauto houtcome
    refine ⟨fun level sync hkind => ?lamp, fun hkind => ⟨fun horphan => ?orphan, fun horphan => ?run⟩⟩
    all_goals rw [hexec, hheld]
    case lamp => exact congrArg Host.Outcome.next (hends fun x => autoOutcome_lampSet_nack _ _ hkind)
    case orphan =>
      exact congrArg Host.Outcome.next (hends fun x => autoOutcome_orphan _ _ hkind horphan false)
    case run => exact congrArg Host.Outcome.next (hends fun x => autoOutcome_run_nack _ _ hkind horphan)
  case bridge =>
    have hends := lensEnd_bridge (s := s.modLens fun x => { x with heldClocks := x.heldClocks + 1 }) hbus hbridge
      false given (untilHeld n (c.tx.events given))
    refine ⟨fun w hkind => ?write, fun count hkind => ?read⟩
    case write => rw [hexec, hheld, hends, endBridge_write _ hkind]; rfl
    case read => rw [hexec, hheld, hends, endBridge_read _ hkind]; rfl

/-- Settles O30: the arbiter, what a request puts on the bus, and how each transaction ends. -/
theorem lensBus : Obligations.LensBus :=
  ⟨arbiterTakesTurns, bridgeCommandsQueue, bridgeCommandsRefused, transactionsOfRequests, transactionsOnTheBus,
    bridgeTransactionEnds, heldClockEnds, heldClockAndDraining⟩

end Sys2Proof.Machine.LensLaws
end

section
/-! SUPPORT. The Page Matcher: its scan, its act at a settle event, and MATCH.TRY (R92 to R95, R101). -/

namespace Sys2Proof.Machine.MatcherLaws

open LessonLaws

/-! ### The scan (R92) -/

theorem scan_eq_some_iff (s : State) (l : Fin 8) (probe : Signature) (p : Nat) :
    s.scan l probe = some p ↔
      (∃ i, (s.lesson l).order[p]? = some i ∧ s.agrees probe i = true)
        ∧ ∀ q i, q < p → (s.lesson l).order[q]? = some i → s.agrees probe i = false := by
  rw [State.scan, List.findIdx?_eq_some_iff_getElem]
  constructor
  · rintro ⟨hp, hagrees, hbefore⟩
    refine ⟨⟨_, List.getElem?_eq_getElem hp, hagrees⟩, fun q i hq hi => ?_⟩
    obtain ⟨_, rfl⟩ := List.getElem?_eq_some_iff.mp hi
    simpa using hbefore q hq
  · rintro ⟨⟨i, hi, hagrees⟩, hbefore⟩
    obtain ⟨hp, rfl⟩ := List.getElem?_eq_some_iff.mp hi
    refine ⟨hp, hagrees, fun q hq => ?_⟩
    simpa using hbefore q _ hq (List.getElem?_eq_getElem (hq.trans hp))

theorem scan_eq_none_iff (s : State) (l : Fin 8) (probe : Signature) :
    s.scan l probe = none ↔ ∀ i ∈ (s.lesson l).order, s.agrees probe i = false := by
  simp only [State.scan, List.findIdx?_eq_none_iff]

theorem scanFindsFirstAgreement : Says.ScanFindsFirstAgreement := fun s l probe =>
  ⟨scan_eq_some_iff s l probe, scan_eq_none_iff s l probe⟩

/-! ### At a settle event (R93 to R95) -/

theorem present_of_st {x : Lesson} (h : x.st = .opened ∨ x.st = .committing) : x.present = true := by
  simpa [Lesson.present] using h

theorem not_present_of_st {x : Lesson} (h : x.st = .absent ∨ x.st = .loading) : x.present = false := by
  rcases h with h | h <;> simp [Lesson.present, h]

theorem matchSettled_off {s : State} (probe : Signature) (h : s.matchOn = false ∨ s.active = none) :
    s.matchSettled probe = s := by
  rcases h with hoff | hnone
  · cases hactive : s.active <;> simp [State.matchSettled, hoff, hactive]
  · simp [State.matchSettled, hnone]

section
variable {s : State} {probe : Signature} {l : Fin 8}

theorem matchSettled_on (hon : s.matchOn = true) (hactive : s.active = some l)
    (hst : (s.lesson l).st = .opened ∨ (s.lesson l).st = .committing) :
    s.matchSettled probe = (s.scan l probe).elim s.unmatch (s.recall l) := by
  simp only [State.matchSettled, hactive, hon, present_of_st hst, Bool.and_self, if_true]
  cases s.scan l probe <;> rfl

theorem matchSettled_recall (hon : s.matchOn = true) (hactive : s.active = some l)
    (hst : (s.lesson l).st = .opened ∨ (s.lesson l).st = .committing) {p : Nat} {i : Fin 64}
    (hscan : s.scan l probe = some p) (hi : (s.lesson l).order[p]? = some i) :
    s.matchSettled probe = (s.stepped l p i).setFlag .recalled := by
  rw [matchSettled_on hon hactive hst, hscan, ← goTo_eq_stepped hi]
  rfl

theorem matchSettled_unmatch (hon : s.matchOn = true) (hactive : s.active = some l)
    (hst : (s.lesson l).st = .opened ∨ (s.lesson l).st = .committing) (hscan : s.scan l probe = none) :
    s.matchSettled probe = (s.stageFollowing .live).setFlag .unmatched := by
  rw [matchSettled_on hon hactive hst, hscan]
  rfl

end

theorem matcherActsAtSettle : Says.MatcherActsAtSettle := fun _ probe =>
  ⟨matchSettled_off probe, fun _ hon hactive hst =>
    ⟨fun _ _ hscan hi => matchSettled_recall hon hactive hst hscan hi, matchSettled_unmatch hon hactive hst⟩⟩

/-! ### MATCH.TRY's checks (R101) -/

theorem exec_matchTry_malformed {s : State} (lesson : Option Nat) {nibbles : List Nat} (h : nibbles.length ≠ 16) :
    exec (.matchTry lesson (some nibbles)) s = answers s .argument .empty := by
  have hcheck : firstFailure [(probeMalformed (some nibbles), .argument), (probeBad (some nibbles), .range)] =
      some .argument := by simp [probeMalformed, firstFailure_cons, h]
  show conclude (matchTryBlock lesson (some nibbles) s) = _
  simp only [matchTryBlock, hcheck, conclude_refuse]

theorem exec_matchTry_badNibble {s : State} (lesson : Option Nat) {nibbles : List Nat} (hlen : nibbles.length = 16)
    (h : ∃ n ∈ nibbles, 15 < n) : exec (.matchTry lesson (some nibbles)) s = answers s .range .empty := by
  have hbad : probeBad (some nibbles) = true := by simpa [probeBad] using h
  have hcheck : firstFailure [(probeMalformed (some nibbles), .argument), (probeBad (some nibbles), .range)] =
      some .range := by simp [probeMalformed, hlen, hbad]
  show conclude (matchTryBlock lesson (some nibbles) s) = _
  simp only [matchTryBlock, hcheck, conclude_refuse]

/-- The items a telegram carries for an optional probe. -/
def nibblesOf (probe : Option Signature) : Option (List Nat) := probe.map fun p => p.toList.map BitVec.toNat

theorem firstFailure_nibblesOf (probe : Option Signature) :
    firstFailure [(probeMalformed (nibblesOf probe), .argument), (probeBad (nibblesOf probe), .range)] = none := by
  cases probe with
  | none => rfl
  | some p =>
    have hmalformed : probeMalformed (nibblesOf (some p)) = false := by simp [probeMalformed, nibblesOf]
    have hbad : probeBad (nibblesOf (some p)) = false := by
      simp only [probeBad, nibblesOf, Option.map_some, List.any_eq_false, List.mem_map, decide_eq_true_eq]
      rintro _ ⟨b, -, rfl⟩
      have hb := b.isLt
      omega
    rw [hmalformed, hbad]
    rfl

/-- MATCH.TRY with a probe that passes, or with none: the lesson is judged, then the probe (R101). -/
theorem exec_matchTry (lesson : Option Nat) (probe : Option Signature) (s : State) :
    exec (.matchTry lesson (nibblesOf probe)) s =
      match s.tryLesson lesson with
      | .inr c => answers s c .empty
      | .inl l =>
        match s.probeOf (nibblesOf probe) with
        | none => answers s .state .empty
        | some sig => answers s .ok (.tried (s.tryReply l sig)) := by
  show conclude (matchTryBlock lesson (nibblesOf probe) s) = _
  simp only [matchTryBlock, firstFailure_nibblesOf]
  cases s.tryLesson lesson with
  | inr c => rfl
  | inl l => cases s.probeOf (nibblesOf probe) <;> rfl

theorem exec_matchTry_refused {s : State} {lesson : Option Nat} {c : ResultCode} (probe : Option Signature)
    (h : s.tryLesson lesson = .inr c) :
    exec (.matchTry lesson (nibblesOf probe)) s = answers s c .empty := by rw [exec_matchTry, h]

theorem exec_matchTry_without_probe {s : State} {lesson : Option Nat} {l : Fin 8} (h : s.tryLesson lesson = .inl l)
    (hsig : s.pfd.liveSig = none) : exec (.matchTry lesson none) s = answers s .state .empty := by
  have hexec := exec_matchTry lesson none s
  have hprobe : s.probeOf (nibblesOf none) = none := hsig
  rwa [h, hprobe] at hexec

theorem exec_matchTry_tried {s : State} {lesson : Option Nat} {l : Fin 8} {probe : Option Signature}
    {sig : Signature} (h : s.tryLesson lesson = .inl l) (hprobe : s.probeOf (nibblesOf probe) = some sig) :
    exec (.matchTry lesson (nibblesOf probe)) s = answers s .ok (.tried (s.tryReply l sig)) := by
  rw [exec_matchTry, h]
  simp only [hprobe]

/-! ### The lesson and the probe of MATCH.TRY -/

theorem tryLesson_number {s : State} {n : Nat} (h : n < 1 ∨ 8 < n) : s.tryLesson (some n) = .inr .range := by
  simp [State.tryLesson, badLesson_of_outside h]

theorem tryLesson_no_active {s : State} (h : s.active = none) : s.tryLesson none = .inr .state := by
  simp [State.tryLesson, h]

theorem tryLesson_active {s : State} {l : Fin 8} (h : s.active = some l) : s.tryLesson none = .inl l := by
  simp [State.tryLesson, h]

theorem tryLesson_named {s : State} {l : Fin 8}
    (hst : (s.lesson l).st = .opened ∨ (s.lesson l).st = .committing) :
    s.tryLesson (some (l.val + 1)) = .inl l := by
  simp [State.tryLesson, present_of_st hst]

theorem tryLesson_not_present {s : State} {l : Fin 8}
    (hst : (s.lesson l).st = .absent ∨ (s.lesson l).st = .loading) :
    s.tryLesson (some (l.val + 1)) = .inr .state := by
  simp [State.tryLesson, not_present_of_st hst]

theorem signatureOf_toNat (sig : Signature) : signatureOf (sig.toList.map BitVec.toNat) = sig := by
  ext i hi
  simp [signatureOf, List.getD_eq_getElem?_getD, hi]

theorem probeOf_given (s : State) (sig : Signature) : s.probeOf (nibblesOf (some sig)) = some sig :=
  congrArg some (signatureOf_toNat sig)

/-! ### What MATCH.TRY answers (R101) -/

theorem agrees_iff (s : State) (probe : Signature) (i : Fin 64) :
    s.agrees probe i = true ↔ ∃ n, (s.page i).setup.compare probe = some n ∧ n ≤ s.tolerance := by
  unfold State.agrees
  cases (s.page i).setup.compare probe <;> simp

/-- A record with a mismatch count has a signature, whose mismatches they are (R91). -/
theorem compare_eq_some {x : Setup} {probe : Signature} {n : Nat} (h : x.compare probe = some n) :
    ∃ sig, x.signature = some sig ∧ n = mismatches sig x.sigMask probe := by
  unfold Setup.compare at h
  split at h
  · next sig hsig =>
    split at h
    · exact ⟨sig, hsig, (Option.some.inj h).symm⟩
    · exact absurd h (Option.some_ne_none n).symm
  · exact absurd h (Option.some_ne_none n).symm

/-- A hit with the mismatches of its record's signature, read without regard to the record's match enable. -/
def signatureHit (s : State) (l : Fin 8) (probe : Signature) (p : Nat) : MatchHit where
  position := p
  handle := ⟨s.entryAt l p, (s.page (s.entryAt l p)).gen⟩
  mismatches :=
    match (s.page (s.entryAt l p)).setup.signature with
    | some sig => mismatches sig (s.page (s.entryAt l p)).setup.sigMask probe
    | none => 0

/-- A record that a scan finds is eligible, so its hit is that of its signature. -/
theorem hitAt_of_scan {s : State} {l : Fin 8} {probe : Signature} {p : Nat} (h : s.scan l probe = some p) :
    s.hitAt l probe p = signatureHit s l probe p := by
  obtain ⟨⟨i, hi, hagrees⟩, -⟩ := (scan_eq_some_iff s l probe p).mp h
  rw [← entryAt_of_getElem? hi] at hagrees
  obtain ⟨n, hcompare, -⟩ := (agrees_iff s probe _).mp hagrees
  obtain ⟨sig, hsig, hn⟩ := compare_eq_some hcompare
  simp only [State.hitAt, signatureHit, State.handleOf, hcompare, hsig, Option.getD_some, hn]

theorem tryReply_eq (s : State) (l : Fin 8) (probe : Signature) :
    s.tryReply l probe =
      { probe := probe
        tolerance := s.tolerance
        enable := s.matchOn
        hit := (s.scan l probe).map (signatureHit s l probe)
        agreements := (s.lesson l).order.countP fun i => s.agrees probe i } := by
  have hhit : (s.scan l probe).map (s.hitAt l probe) = (s.scan l probe).map (signatureHit s l probe) :=
    Option.map_congr fun p hp => hitAt_of_scan hp
  rw [State.tryReply, hhit, ← List.countP_eq_length_filter]

theorem matchTryReportsScan : Says.MatchTryReportsScan := by
  intro s l probe hst reply
  have hreply : s.tryReply l probe = reply := tryReply_eq s l probe
  have hnamed := tryLesson_named hst
  rw [← hreply]
  refine ⟨exec_matchTry_tried hnamed (probeOf_given s probe),
    fun hactive => exec_matchTry_tried (tryLesson_active hactive) (probeOf_given s probe), fun hsig => ?live,
    exec_matchTry_without_probe hnamed⟩
  have hlive : s.probeOf (nibblesOf none) = some probe := hsig
  exact ⟨exec_matchTry_tried hnamed hlive, fun hactive => exec_matchTry_tried (tryLesson_active hactive) hlive⟩

theorem matchTryRefusals : Says.MatchTryRefusals := by
  intro s
  refine ⟨fun lesson nibbles => ⟨exec_matchTry_malformed lesson, exec_matchTry_badNibble lesson⟩,
    fun probe => ⟨fun n hn => exec_matchTry_refused probe (tryLesson_number hn),
      fun hactive => exec_matchTry_refused probe (tryLesson_no_active hactive),
      fun l hst => exec_matchTry_refused probe (tryLesson_not_present hst)⟩, fun hsig => ?noProbe⟩
  cases hactive : s.active with
  | none => exact exec_matchTry_refused none (tryLesson_no_active hactive)
  | some l => exact exec_matchTry_without_probe (tryLesson_active hactive) hsig

end Sys2Proof.Machine.MatcherLaws
end

section
/-! SUPPORT. Staging into the views: what stands of the records, the lessons and the flags (R24, R44, R118). -/

namespace Sys2Proof.Machine.FinderLaws

/-- What staging leaves: every record but in its selection refs, every lesson, and the link. -/
structure Staged (s t : State) : Prop where
  page : ∀ i, t.page i = { s.page i with selRefs := (t.page i).selRefs }
  lessons : t.lessons = s.lessons
  link : t.link = s.link

theorem Staged.refl (s : State) : Staged s s := ⟨fun _ => rfl, rfl, rfl⟩

theorem Staged.trans {s t u : State} (h : Staged s t) (k : Staged t u) : Staged s u where
  page i := by rw [k.page i, h.page i]
  lessons := k.lessons.trans h.lessons
  link := k.link.trans h.link

theorem modPage_selRefs_staged (s : State) (i : Fin 64) (f : Nat → Nat) :
    Staged s (s.modPage i fun r => { r with selRefs := f r.selRefs }) where
  page j := by
    rw [State.modPage_page]
    split
    · next hij => rw [← hij]
    · rfl
  lessons := rfl
  link := rfl

theorem addSel_staged (s : State) (o : Option (Fin 64)) : Staged s (s.addSel o) := by
  cases o with
  | none => exact .refl s
  | some i => exact modPage_selRefs_staged s i (· + 1)

theorem dropSel_staged (s : State) (o : Option (Fin 64)) : Staged s (s.dropSel o) := by
  cases o with
  | none => exact .refl s
  | some i => exact modPage_selRefs_staged s i (· - 1)

theorem moveSel_staged (s : State) (a b : Option (Fin 64)) : Staged s (s.moveSel a b) := by
  unfold State.moveSel
  split
  · exact .refl s
  · exact (dropSel_staged s a).trans (addSel_staged _ b)

theorem modView_staged (s : State) (v : ViewId) (f : ViewCtx → ViewCtx) : Staged s (s.modView v f) :=
  ⟨fun _ => rfl, rfl, rfl⟩

theorem stageIfFollowing_staged (s : State) (v : ViewId) (sel : Selection) : Staged s (s.stageIfFollowing v sel) := by
  unfold State.stageIfFollowing
  split
  · exact (moveSel_staged s _ _).trans (modView_staged _ v _)
  · exact .refl s

theorem stageFollowing_staged (s : State) (sel : Selection) : Staged s (s.stageFollowing sel) :=
  ((stageIfFollowing_staged s .proj sel).trans (stageIfFollowing_staged _ .strm sel)).trans
    (stageIfFollowing_staged _ .panel sel)

theorem stageIfFollowing_view (s : State) (v w : ViewId) (sel : Selection) :
    (s.stageIfFollowing v sel).view w =
      if v = w ∧ (s.view w).staged.follow = true then
        { s.view w with staged := { (s.view w).staged with sel := sel } }
      else s.view w := by
  unfold State.stageIfFollowing
  by_cases hfollow : (s.view v).staged.follow = true
  · rw [if_pos hfollow, State.stage_view]
    by_cases hvw : v = w
    · rw [if_pos hvw, if_pos ⟨hvw, hvw ▸ hfollow⟩]
    · rw [if_neg hvw, if_neg fun h => hvw h.1]
  · rw [if_neg hfollow, if_neg]
    rintro ⟨rfl, h⟩
    exact hfollow h

/-- Each view is staged by its own follow flag, which no staging changes. -/
theorem stageFollowing_view (s : State) (sel : Selection) (w : ViewId) :
    (s.stageFollowing sel).view w =
      if (s.view w).staged.follow = true then
        { s.view w with staged := { (s.view w).staged with sel := sel } }
      else s.view w := by
  cases w <;> simp [State.stageFollowing, stageIfFollowing_view]

theorem stageFollowing_sel (s : State) (sel : Selection) (w : ViewId) :
    ((s.stageFollowing sel).view w).staged.sel =
      if (s.view w).staged.follow = true then sel else (s.view w).staged.sel := by
  rw [stageFollowing_view]
  split <;> rfl

/-- The matcher's act leaves every record but in its selection refs (R94, R95). -/
theorem matchSettled_page (s : State) (sig : Signature) (i : Fin 64) :
    (s.matchSettled sig).page i = { s.page i with selRefs := ((s.matchSettled sig).page i).selRefs } := by
  unfold State.matchSettled
  split
  · split
    · split
      · exact (stageFollowing_staged _ _).page i
      · exact (stageFollowing_staged _ _).page i
    · rfl
  · rfl

end Sys2Proof.Machine.FinderLaws
end

section
/-! SUPPORT. What a complete intake frame leaves to the Page Finder's analysis: Sensor Intake has moved and the PAGE
fills have completed (R59, R66 to R69). -/

namespace Sys2Proof.Machine.FinderLaws

open StillLaws

/-! ### What completed fills leave (R59) -/

/-- The Page Finder, the lens bus, the views and the matcher stand, with every record's setup and generation, record 0's
dirty flag, and every lesson's order, cursor and state. -/
structure FillsKeep (s t : State) : Prop where
  pfd : t.pfd = s.pfd
  lens : t.lens = s.lens
  views : t.views = s.views
  active : t.active = s.active
  matchOn : t.matchOn = s.matchOn
  tolerance : t.tolerance = s.tolerance
  setup : ∀ i, (t.page i).setup = (s.page i).setup
  gen : ∀ i, (t.page i).gen = (s.page i).gen
  dirty : (t.page 0).dirty = (s.page 0).dirty
  order : ∀ l, (t.lesson l).order = (s.lesson l).order
  cursor : ∀ l, (t.lesson l).cursor = (s.lesson l).cursor
  st : ∀ l, (t.lesson l).st = (s.lesson l).st

theorem FillsKeep.refl (s : State) : FillsKeep s s :=
  ⟨rfl, rfl, rfl, rfl, rfl, rfl, fun _ => rfl, fun _ => rfl, rfl, fun _ => rfl, fun _ => rfl, fun _ => rfl⟩

theorem FillsKeep.trans {s t u : State} (h : FillsKeep s t) (k : FillsKeep t u) : FillsKeep s u where
  pfd := k.pfd.trans h.pfd
  lens := k.lens.trans h.lens
  views := k.views.trans h.views
  active := k.active.trans h.active
  matchOn := k.matchOn.trans h.matchOn
  tolerance := k.tolerance.trans h.tolerance
  setup i := (k.setup i).trans (h.setup i)
  gen i := (k.gen i).trans (h.gen i)
  dirty := k.dirty.trans h.dirty
  order l := (k.order l).trans (h.order l)
  cursor l := (k.cursor l).trans (h.cursor l)
  st l := (k.st l).trans (h.st l)

/-- A change that leaves the records and the lessons, or rewrites nothing of them that is listed. -/
theorem FillsKeep.of_table {s t : State} (h : TableChange s t) (hviews : t.views = s.views)
    (hactive : t.active = s.active) (hsetup : ∀ i, (t.page i).setup = (s.page i).setup)
    (hgen : ∀ i, (t.page i).gen = (s.page i).gen) (hdirty : (t.page 0).dirty = (s.page 0).dirty)
    (hlesson : ∀ l, (t.lesson l).order = (s.lesson l).order ∧ (t.lesson l).cursor = (s.lesson l).cursor
      ∧ (t.lesson l).st = (s.lesson l).st) : FillsKeep s t where
  pfd := h.pfd
  lens := h.lens
  views := hviews
  active := hactive
  matchOn := h.matchOn
  tolerance := h.tolerance
  setup := hsetup
  gen := hgen
  dirty := hdirty
  order l := (hlesson l).1
  cursor l := (hlesson l).2.1
  st l := (hlesson l).2.2

theorem releaseStill_fillsKeep (s : State) (i : Fin 64) : FillsKeep s (s.releaseStill i) := by
  have hpage (j : Fin 64) : (s.releaseStill i).page j =
      { s.page j with still := ((s.releaseStill i).page j).still } := by
    rw [releaseStill_page]
    split
    · next hij => rw [hij]
    · rfl
  refine .of_table (s.releaseStill_change i) (releaseStill_views s i) (releaseStill_active s i) (fun j => ?_)
    (fun j => ?_) ?_ fun l => ?_
  · rw [hpage]
  · rw [hpage]
  · rw [hpage]
  · simp only [State.lesson, releaseStill_lessons, and_self]

theorem modPage_dirty_fillsKeep (s : State) {i : Fin 64} (hi : i ≠ 0) :
    FillsKeep s (s.modPage i fun r => { r with dirty := true }) := by
  have hpage := fun j => s.modPage_page i j fun r => { r with dirty := true }
  refine .of_table (s.modPage_change i _) rfl rfl (fun j => ?_) (fun j => ?_) ?_ fun l => ⟨rfl, rfl, rfl⟩
  all_goals rw [hpage]; split <;> simp_all

theorem dirtyLesson_fillsKeep (s : State) (l : Fin 8) : FillsKeep s (s.dirtyLesson l) := by
  refine .of_table (s.modLesson_change l _) rfl rfl (fun _ => rfl) (fun _ => rfl) rfl fun m => ?_
  rw [State.dirtyLesson, State.modLesson_lesson]
  split
  · next hlm => rw [hlm]; exact ⟨rfl, rfl, rfl⟩
  · exact ⟨rfl, rfl, rfl⟩

theorem touch_fillsKeep (s : State) (i : Fin 64) : FillsKeep s (s.touch i) := by
  unfold State.touch
  split
  · exact .refl s
  · next hi =>
    dsimp only
    split
    · exact (modPage_dirty_fillsKeep s hi).trans (dirtyLesson_fillsKeep _ _)
    · exact modPage_dirty_fillsKeep s hi

theorem modPage_fills_fillsKeep (s : State) (i : Fin 64) (still fill : Option (Fin 24)) :
    FillsKeep s (s.modPage i fun r => { r with still := still, fill := fill }) := by
  have hpage := fun j => s.modPage_page i j fun r => { r with still := still, fill := fill }
  refine .of_table (s.modPage_change i _) rfl rfl (fun j => ?_) (fun j => ?_) ?_ fun l => ⟨rfl, rfl, rfl⟩
  all_goals rw [hpage]; split <;> simp_all

theorem modSlot_fillsKeep (s : State) (k : Fin 24) (f : Slot → Slot) : FillsKeep s (s.modSlot k f) :=
  .of_table (s.modSlot_change k f) rfl rfl (fun _ => rfl) (fun _ => rfl) rfl fun _ => ⟨rfl, rfl, rfl⟩

theorem setFlag_fillsKeep (s : State) (f : Flag) : FillsKeep s (s.setFlag f) :=
  .of_table (s.setFlag_change f) rfl rfl (fun _ => rfl) (fun _ => rfl) rfl fun _ => ⟨rfl, rfl, rfl⟩

theorem completeFill_fillsKeep (s : State) (k : Fin 24) (p : Picture) (light : Fin 16) :
    FillsKeep s (s.completeFill k p light) := by
  unfold State.completeFill
  split
  · exact ((((releaseStill_fillsKeep s _).trans (modSlot_fillsKeep _ k _)).trans
      (modPage_fills_fillsKeep _ _ _ _)).trans (touch_fillsKeep _ _)).trans (setFlag_fillsKeep _ _)
  · exact .refl s

theorem completePageFills_fillsKeep (s : State) (pixels : Nat) (light : Fin 16) :
    FillsKeep s (s.completePageFills pixels light) := by
  unfold State.completePageFills
  generalize s.fillsIn .page .capturing = ks
  suffices h : ∀ u : State, FillsKeep u
      (ks.foldl (fun t k => t.completeFill k (.straightened pixels (s.slot k).capture) light) u) from h s
  induction ks with
  | nil => exact .refl
  | cons k ks ih => exact fun u => (completeFill_fillsKeep u k _ light).trans (ih _)

/-! ### Sensor Intake's movement (R66 to R69) -/

theorem keepPicture_eq (s : State) (f : IntakeFrame) :
    ∃ x : Intake,
      (if s.sin.st = .running then s.modIntake fun x => { x with lastGood := some f.pixels } else s) =
        { s with sin := x } := by
  split
  · exact ⟨_, rfl⟩
  · exact ⟨_, rfl⟩

theorem intakeMove_running {s : State} (h : s.sin.st = .running) (f : IntakeFrame) :
    ∃ x : Intake, s.intakeMove f = { s with sin := x } := by
  simp only [State.intakeMove, h]
  exact ⟨_, rfl⟩

/-- Sensor Intake moves alone, or becomes RUNNING with the Page Finder EMPTY (R67, R68, R73). -/
theorem intakeMove_cases (s : State) (f : IntakeFrame) :
    ∃ x : Intake, s.intakeMove f = { s with sin := x } ∨ s.intakeMove f = { s.enterRunning with sin := x } := by
  obtain ⟨x, hx⟩ := keepPicture_eq s f
  obtain ⟨y, hy⟩ := keepPicture_eq s.enterRunning f
  cases hst : s.sin.st with
  | waiting => exact ⟨y, .inr (by simp only [State.intakeMove, hst]; exact hy)⟩
  | running => exact (intakeMove_running hst f).imp fun _ => .inl
  | lost =>
    by_cases hgood : 2 ≤ s.sin.good
    · exact ⟨y, .inr (by simp only [State.intakeMove, hst, hgood, if_true]; exact hy)⟩
    · exact ⟨x, .inl (by simp only [State.intakeMove, hst, hgood, if_false]; simpa only [hst] using hx)⟩

/-- The state the Page Finder's acts at a complete frame's end begin in. -/
def framed (s : State) (f : IntakeFrame) : State :=
  ((s.modIntake fun x => { x with good := min 65535 (x.good + 1), inProgress := false }).intakeMove
    f).completePageFills f.pixels f.light

theorem framed_running {s : State} (h : s.sin.st = .running) (f : IntakeFrame) : FillsKeep s (framed s f) := by
  obtain ⟨x, hx⟩ := intakeMove_running
    (s := s.modIntake fun x => { x with good := min 65535 (x.good + 1), inProgress := false }) h f
  rw [framed, hx]
  obtain ⟨hpfd, hlens, hviews, hactive, hmatchOn, htolerance, hsetup, hgen, hdirty, horder, hcursor, hst⟩ :=
    completePageFills_fillsKeep ({ s with sin := x } : State) f.pixels f.light
  exact ⟨hpfd, hlens, hviews, hactive, hmatchOn, htolerance, hsetup, hgen, hdirty, horder, hcursor, hst⟩

/-- What the lamp and the focus run depend on stands over Sensor Intake's movement and the fills. -/
structure LampStands (s t : State) : Prop where
  lens : t.lens = s.lens
  lamp : t.pfd.lamp = s.pfd.lamp
  run : t.pfd.run = s.pfd.run
  syncPending : t.pfd.syncPending = s.pfd.syncPending
  darkCount : t.pfd.darkCount = s.pfd.darkCount
  brightCount : t.pfd.brightCount = s.pfd.brightCount

theorem framed_lampStands (s : State) (f : IntakeFrame) : LampStands s (framed s f) := by
  have hfills (u : State) := u.completePageFills_change f.pixels f.light
  obtain ⟨x, hmove | hmove⟩ := intakeMove_cases
    (s.modIntake fun x => { x with good := min 65535 (x.good + 1), inProgress := false }) f
  all_goals
    rw [framed, hmove]
    constructor <;> simp only [(hfills _).lens, (hfills _).pfd] <;> rfl

/-! ### The Page Finder's acts in order (R81) -/

/-- The offers at the end of an analysed frame: FOCUS_START, then a sync, then a lamp step. -/
def offered (s : State) : State := s.offerFocusStart.offerSync.offerStep

theorem exec_intakeFrameEnd_analysed {s : State} {f : IntakeFrame} (hprogress : s.sin.inProgress = true)
    (hfull : f.full = true) (hrunning : s.sin.st = .running) :
    exec (.intakeFrameEnd f) s = .next (offered ((framed s f).analyse f)) := by
  show Host.Outcome.next (s.frameEnd f) = _
  rw [State.frameEnd, if_pos hprogress, if_pos hfull, State.frameComplete, if_pos hrunning]
  rfl

theorem exec_intakeFrameEnd_unanalysed {s : State} {f : IntakeFrame} (hprogress : s.sin.inProgress = true)
    (hfull : f.full = true) (hrunning : s.sin.st ≠ .running) :
    exec (.intakeFrameEnd f) s = .next (framed s f).offerFocusStart.offerSync := by
  show Host.Outcome.next (s.frameEnd f) = _
  rw [State.frameEnd, if_pos hprogress, if_pos hfull, State.frameComplete, if_neg hrunning]
  rfl

end Sys2Proof.Machine.FinderLaws
end

section
/-! SUPPORT. The judgement of an analysed frame: its measures and flags, the move of R72's table and the event it gives
(R71, R72, R79). -/

namespace Sys2Proof.Machine.FinderLaws

/-! ### The two moves of a page that is not SETTLED, or is gone (R72) -/

theorem judge_moves (p : Finder) (motion : Nat) :
    ((p.judge motion).1.st, (p.judge motion).1.stable, (p.judge motion).1.missing) =
      if motion < p.settings.motion then
        (if p.settings.settle ≤ p.stable + 1 then (.settled, p.stable + 1, 0) else (p.st, p.stable + 1, 0))
      else (p.st, 0, 0) := by
  unfold Finder.judge
  split
  · split <;> rfl
  · rfl

theorem judge_settle_iff {p : Finder} (h : p.st ≠ .settled) (motion : Nat) :
    (p.judge motion).2 = .settle ↔ (p.judge motion).1.st = .settled := by
  unfold Finder.judge
  split
  · split <;> simp [h]
  · simp [h]

theorem judge_liveCorners (p : Finder) (motion : Nat) : (p.judge motion).1.liveCorners = p.liveCorners := by
  unfold Finder.judge
  split
  · split <;> rfl
  · rfl

theorem gone_moves (p : Finder) :
    (p.gone.1.st, p.gone.1.stable, p.gone.1.missing) =
      if p.settings.missing ≤ p.missing + 1 then (.empty, 0, 0) else (p.st, 0, p.missing + 1) := by
  unfold Finder.gone
  split <;> rfl

theorem gone_ne_settle (p : Finder) : p.gone.2 ≠ .settle := by
  unfold Finder.gone
  split
  · split <;> exact nofun
  · exact nofun

theorem gone_st {p : Finder} (h : p.st ≠ .settled) : p.gone.1.st ≠ .settled := by
  unfold Finder.gone
  split
  · exact nofun
  · exact h

/-! ### The table of R72 -/

theorem move_movesTo (p : Finder) (m : Measures) :
    ((p.move m).1.st, (p.move m).1.stable, (p.move m).1.missing) =
      movesTo p m.outline (decide (m.motion.val < p.settings.motion)) := by
  cases hst : p.st with
  | noSignal => simp [Finder.move, movesTo, hst]
  | empty =>
    cases houtline : m.outline with
    | false => simp [Finder.move, movesTo, hst, houtline]
    | true => simp [Finder.move, movesTo, hst, houtline, judge_moves]
  | settled =>
    cases houtline : m.outline with
    | false => simp [Finder.move, movesTo, hst, houtline, gone_moves]
    | true => by_cases hlow : m.motion.val < p.settings.motion <;> simp [Finder.move, movesTo, hst, houtline, hlow]
  | arriving | moving =>
    cases houtline : m.outline with
    | false => simp [Finder.move, movesTo, hst, houtline, gone_moves]
    | true => simp [Finder.move, movesTo, hst, houtline, judge_moves]

/-- A settle event is an entry into SETTLED (R72, R74). -/
theorem move_settle_iff (p : Finder) (m : Measures) :
    (p.move m).2 = .settle ↔ p.st ≠ .settled ∧ (p.move m).1.st = .settled := by
  cases hst : p.st with
  | noSignal => simp [Finder.move, hst]
  | empty =>
    cases houtline : m.outline with
    | false => simp [Finder.move, hst, houtline]
    | true => simp [Finder.move, hst, houtline, judge_settle_iff]
  | settled =>
    cases houtline : m.outline with
    | false => simp [Finder.move, hst, houtline, gone_ne_settle]
    | true => by_cases hlow : m.motion.val < p.settings.motion <;> simp [Finder.move, hst, houtline, hlow]
  | arriving | moving =>
    cases houtline : m.outline with
    | false => simp [Finder.move, hst, houtline, gone_ne_settle, gone_st]
    | true => simp [Finder.move, hst, houtline, judge_settle_iff]

/-- A page settles in a frame that shows it, whose outline stays the live corners (R72). -/
theorem move_of_settle {p : Finder} {m : Measures} (h : (p.move m).2 = .settle) :
    m.outline = true ∧ (p.move m).1.liveCorners = p.liveCorners := by
  cases houtline : m.outline with
  | false => cases hst : p.st <;> simp_all [Finder.move, gone_ne_settle]
  | true =>
    refine ⟨rfl, ?_⟩
    cases hst : p.st with
    | noSignal => simp [Finder.move, hst]
    | settled => by_cases hlow : m.motion.val < p.settings.motion <;> simp [Finder.move, hst, houtline, hlow]
    | empty | arriving | moving => simp [Finder.move, hst, houtline, judge_liveCorners]

/-- A page that was SETTLED or MOVING and stays away gives a removal event (R72, R77). -/
theorem move_of_removal {p : Finder} {m : Measures} (hst : p.st = .settled ∨ p.st = .moving)
    (houtline : m.outline = false) (hmissing : p.settings.missing ≤ p.missing + 1) :
    (p.move m).2 = .removal ∧ (p.move m).1.st = .empty := by
  rcases hst with hst | hst <;> simp [Finder.move, Finder.gone, hst, houtline, hmissing]

/-- What a move of the table rewrites. -/
theorem move_eq (p : Finder) (m : Measures) :
    (p.move m).1 =
      { p with
        st := (p.move m).1.st, stable := (p.move m).1.stable, missing := (p.move m).1.missing,
        liveCorners := (p.move m).1.liveCorners } := by
  have hjudge (q : Finder) (n : Nat) : (q.judge n).1 =
      { q with
        st := (q.judge n).1.st, stable := (q.judge n).1.stable, missing := (q.judge n).1.missing,
        liveCorners := (q.judge n).1.liveCorners } := by
    unfold Finder.judge
    split
    · split <;> rfl
    · rfl
  have hgone : p.gone.1 =
      { p with
        st := p.gone.1.st, stable := p.gone.1.stable, missing := p.gone.1.missing,
        liveCorners := p.gone.1.liveCorners } := by
    unfold Finder.gone
    split <;> rfl
  unfold Finder.move
  split
  case h_3 => exact hjudge _ _
  case h_4 => split <;> rfl
  case h_5 => exact hjudge _ _
  case h_6 => exact hjudge _ _
  case h_7 => exact hgone
  all_goals rfl

/-! ### The Page Finder once a frame is judged (R71, R72, R79) -/

/-- Whether a frame's motion is low, as the Page Finder judges it (R71, R72). -/
def lowMotion (p : Finder) (f : IntakeFrame) : Bool :=
  decide ((if p.hasPrevious then f.motion.val else 255) < p.settings.motion)

theorem decide_motion_eq_lowMotion (p : Finder) (f : IntakeFrame) :
    decide ((p.measure f).motion.val < p.settings.motion) = lowMotion p f := by
  unfold lowMotion Finder.measure
  split <;> rfl

/-- The Page Finder as a frame's measures, flags and move leave it. -/
def judged (p : Finder) (f : IntakeFrame) : Finder := ((p.observe f).move (p.measure f)).1

/-- The event a frame's move gives (R72). -/
def eventOf (p : Finder) (f : IntakeFrame) : FinderEvent := ((p.observe f).move (p.measure f)).2

theorem judged_eq (p : Finder) (f : IntakeFrame) :
    judged p f =
      { p.observe f with
        st := (judged p f).st, stable := (judged p f).stable, missing := (judged p f).missing,
        liveCorners := (judged p f).liveCorners } := move_eq _ _

theorem judged_movesTo (p : Finder) (f : IntakeFrame) :
    ((judged p f).st, (judged p f).stable, (judged p f).missing) =
      movesTo p f.outline.isSome (lowMotion p f) := by
  rw [← decide_motion_eq_lowMotion]
  exact move_movesTo (p.observe f) (p.measure f)

theorem judged_st (p : Finder) (f : IntakeFrame) :
    (judged p f).st = (movesTo p f.outline.isSome (lowMotion p f)).1 := congrArg Prod.fst (judged_movesTo p f)

theorem judged_latest (p : Finder) (f : IntakeFrame) : (judged p f).latest = some (p.measure f) := by
  rw [judged_eq]; rfl

/-- R79's flags, in either spelling of the focus limit. -/
theorem frameFlags_eq_flagsOf (p : Finder) (f : IntakeFrame) :
    p.frameFlags (p.measure f) = flagsOf p f.focus.val f.light.val f.glare.val := by
  unfold Finder.frameFlags Finder.focusLimit flagsOf
  cases p.focusLowHeld <;> rfl

theorem judged_flags (p : Finder) (f : IntakeFrame) :
    (judged p f).flags = flagsOf p f.focus.val f.light.val f.glare.val := by
  rw [judged_eq, ← frameFlags_eq_flagsOf]; rfl

theorem judged_focusLowHeld (p : Finder) (f : IntakeFrame) :
    (judged p f).focusLowHeld = (judged p f).flags.focusLow := by rw [judged_eq]; rfl

theorem judged_hasPrevious (p : Finder) (f : IntakeFrame) : (judged p f).hasPrevious = true := by
  rw [judged_eq]; rfl

theorem judged_settings (p : Finder) (f : IntakeFrame) : (judged p f).settings = p.settings := by
  rw [judged_eq]; rfl

theorem judged_report (p : Finder) (f : IntakeFrame) : (judged p f).report = p.report := by rw [judged_eq]; rfl

theorem judged_run (p : Finder) (f : IntakeFrame) :
    (judged p f).run = p.run ∧ (judged p f).busyPolls = p.busyPolls := by
  rw [judged_eq]; exact ⟨rfl, rfl⟩

theorem judged_lamp (p : Finder) (f : IntakeFrame) :
    (judged p f).lamp = p.lamp ∧ (judged p f).syncPending = p.syncPending
      ∧ (judged p f).darkCount = p.darkCount ∧ (judged p f).brightCount = p.brightCount := by
  rw [judged_eq]; exact ⟨rfl, rfl, rfl, rfl⟩

/-! ### The events of a frame (R72, R74, R77) -/

theorem eventOf_settle_iff (p : Finder) (f : IntakeFrame) :
    eventOf p f = .settle ↔ p.st ≠ .settled ∧ (movesTo p f.outline.isSome (lowMotion p f)).1 = .settled := by
  rw [← judged_st]
  exact move_settle_iff (p.observe f) (p.measure f)

theorem outline_of_settle {p : Finder} {f : IntakeFrame} (h : eventOf p f = .settle) : f.outline.isSome = true :=
  (move_of_settle h).1

theorem liveCorners_of_settle {p : Finder} {f : IntakeFrame} (h : eventOf p f = .settle) :
    (judged p f).liveCorners = f.outline := by
  obtain ⟨c, hc⟩ := Option.isSome_iff_exists.mp (outline_of_settle h)
  have hobserved : (p.observe f).liveCorners = f.outline := by simp [Finder.observe, hc]
  exact (move_of_settle h).2.trans hobserved

theorem eventOf_settlesAt {s : State} {f : IntakeFrame} {c : Corners} (h : s.settlesAt f c) :
    eventOf s.pfd f = .settle := by
  obtain ⟨-, -, -, hprevious, hst, houtline, hmotion⟩ := h
  have hlow : lowMotion s.pfd f = true := by simpa [lowMotion, hprevious] using hmotion
  rw [eventOf_settle_iff, hlow, houtline]
  rcases hst with ⟨hst | hst, hsettle⟩ | ⟨hst, hsettle⟩ <;> simp [movesTo, hst, hsettle]

theorem eventOf_removal {p : Finder} {f : IntakeFrame} (hst : p.st = .settled ∨ p.st = .moving)
    (houtline : f.outline = none) (hmissing : p.settings.missing ≤ p.missing + 1) :
    eventOf p f = .removal ∧ (judged p f).st = .empty :=
  move_of_removal (p := p.observe f) (m := p.measure f) hst (by simp [Finder.measure, houtline]) hmissing

end Sys2Proof.Machine.FinderLaws
end

section
/-! SUPPORT. The acts of a settle event and of a removal event: the live signature, record 0, the matcher and the focus
check (R74, R75, R77, R78, R84). -/

namespace Sys2Proof.Machine.FinderLaws

open StillLaws

/-! ### The focus check (R84) -/

theorem offerFocusStart_eq (s : State) :
    s.offerFocusStart =
      { s with
        lens :=
          if s.pfd.run = .starting ∧ s.lens.auto.isNone = true then s.lens.queueAuto .focusStart else s.lens } := by
  unfold State.offerFocusStart Lens.autoFree
  split <;> rfl

/-- The focus check's three conditions: auto-focus on, the frame low in focus, no run in progress. -/
def checksFocus (s : State) : Prop := s.lens.autoFocus = true ∧ s.pfd.flags.focusLow = true ∧ s.pfd.run = .idle

theorem focusCheck_starts {s : State} (h : checksFocus s) :
    s.focusCheck =
      { s with
        pfd := { s.pfd with run := .starting, busyPolls := 0 }
        lens := if s.lens.auto.isSome then s.lens else s.lens.queueAuto .focusStart } := by
  have hstarts : s.focusCheck = (s.modFinder fun p => { p with run := .starting, busyPolls := 0 }).offerFocusStart :=
    if_pos h
  rw [hstarts, offerFocusStart_eq]
  cases hauto : s.lens.auto <;> simp [State.modFinder, hauto]

theorem focusCheck_passes {s : State} (h : ¬ checksFocus s) : s.focusCheck = s := if_neg h

theorem focusCheck_bus (s : State) : BusChange s s.focusCheck := by
  by_cases h : checksFocus s
  · rw [focusCheck_starts h]; exact ⟨rfl⟩
  · rw [focusCheck_passes h]; exact ⟨rfl⟩

theorem focusCheck_link (s : State) : s.focusCheck.link = s.link := by
  by_cases h : checksFocus s
  · rw [focusCheck_starts h]
  · rw [focusCheck_passes h]

theorem focusCheck_pfd (s : State) :
    s.focusCheck.pfd = { s.pfd with run := s.focusCheck.pfd.run, busyPolls := s.focusCheck.pfd.busyPolls } := by
  by_cases h : checksFocus s
  · rw [focusCheck_starts h]
  · rw [focusCheck_passes h]

/-! ### What a bus change leaves -/

theorem page_of_bus {s t : State} (h : BusChange s t) (i : Fin 64) : t.page i = s.page i := by
  rw [h.eq]; rfl

theorem lesson_of_bus {s t : State} (h : BusChange s t) (l : Fin 8) : t.lesson l = s.lesson l := by
  rw [h.eq]; rfl

theorem view_of_bus {s t : State} (h : BusChange s t) (v : ViewId) : t.view v = s.view v := by
  rw [h.eq]; rfl

/-! ### Record 0 under tracking CONTINUOUS (R78) -/

/-- Record 0's setup once the frame's outline is tracked. -/
def trackedSetup (s : State) (f : IntakeFrame) : Setup :=
  { (s.page 0).setup with
    corners := if s.pfd.settings.tracking = .continuous ∧ f.outline.isSome = true then f.outline
      else (s.page 0).setup.corners }

/-- The state an event's acts begin in: the frame judged, its outline tracked. -/
def tracked (s : State) (f : IntakeFrame) : State :=
  { s with pfd := judged s.pfd f }.modPage 0 fun r => { r with setup := trackedSetup s f }

theorem track_eq (s : State) (f : IntakeFrame) :
    (if s.pfd.settings.tracking = .continuous ∧ f.outline.isSome = true then
        ({ s with pfd := judged s.pfd f } : State).track f.outline
      else { s with pfd := judged s.pfd f }) = tracked s f := by
  have hsame : ∀ u : State, (u.modPage 0 fun _ => u.page 0) = u := fun u => by
    simp [State.modPage, State.page]
  unfold tracked trackedSetup
  split
  · rfl
  · exact (hsame { s with pfd := judged s.pfd f }).symm

theorem tracked_page_zero (s : State) (f : IntakeFrame) :
    (tracked s f).page 0 = { s.page 0 with setup := trackedSetup s f } := by
  rw [tracked, State.modPage_page_same]; rfl

theorem tracked_page_ne (s : State) (f : IntakeFrame) {i : Fin 64} (h : i ≠ 0) : (tracked s f).page i = s.page i := by
  rw [tracked, State.modPage_page_ne _ _ h.symm]; rfl

/-- The live signature rests on record 0's rotation and mirror, which tracking leaves (R75). -/
theorem tracked_signature (s : State) (f : IntakeFrame) :
    (tracked s f).settledSignature f =
      liveSignature f.ink (s.page 0).setup.rotation (s.page 0).setup.mirror := by
  rw [State.settledSignature, tracked_page_zero]; rfl

/-! ### A settle event up to its matcher (R74 steps 1 to 4) -/

/-- The state in which a settle event runs the matcher: the live signature taken, record 0 written, SETTLED set. -/
def recorded (s : State) (f : IntakeFrame) : State :=
  ((s.modFinder fun p => { p with liveSig := some (s.settledSignature f) }).modPage 0 fun r =>
      { r with setup := { r.setup with
          signature := some (s.settledSignature f)
          corners := if s.pfd.settings.tracking = .off then r.setup.corners else s.pfd.liveCorners } }).setFlag .settled

theorem settle_eq (s : State) (f : IntakeFrame) :
    s.settle f = ((recorded s f).matchSettled (s.settledSignature f)).focusCheck := by
  have htwice : ∀ (u : State) (g h : Record → Record),
      ((u.modPage 0 g).modPage 0 h) = u.modPage 0 fun r => h (g r) := fun u g h => by
    simp [State.modPage, State.page]
  have hrecorded : ∀ u : State, (if u.pfd.settings.tracking = .off then u else u.track u.pfd.liveCorners) =
      u.modPage 0 fun r => { r with setup := { r.setup with
        corners := if u.pfd.settings.tracking = .off then r.setup.corners else u.pfd.liveCorners } } := fun u => by
    have hsame : (u.modPage 0 fun r => r) = u := by simp [State.modPage, State.page]
    split
    · exact hsame.symm
    · rfl
  unfold State.settle recorded
  simp only [hrecorded, htwice]
  rfl

theorem recorded_page_zero (s : State) (f : IntakeFrame) :
    ((recorded s f).page 0) = { s.page 0 with setup := { (s.page 0).setup with
      signature := some (s.settledSignature f)
      corners := if s.pfd.settings.tracking = .off then (s.page 0).setup.corners else s.pfd.liveCorners } } := by
  rw [recorded, State.setFlag_page, State.modPage_page_same]; rfl

theorem recorded_page_ne (s : State) (f : IntakeFrame) {i : Fin 64} (h : i ≠ 0) :
    (recorded s f).page i = s.page i := by
  rw [recorded, State.setFlag_page, State.modPage_page_ne _ _ h.symm]; rfl

theorem recorded_settled (s : State) (f : IntakeFrame) : (recorded s f).hasFlag .settled = true := hasFlag_of_or rfl

/-! ### The acts of the frame's event (R74, R77) -/

/-- The state once the event of the frame, if any, has been acted on. -/
def acted (s : State) (f : IntakeFrame) : State :=
  match eventOf s.pfd f with
  | .settle => (tracked s f).settle f
  | .removal => (tracked s f).removal
  | .none => tracked s f

theorem analyse_eq (s : State) (f : IntakeFrame) : s.analyse f = (acted s f).updateReport.countLight := by
  unfold State.analyse acted eventOf
  dsimp only
  rw [← track_eq]
  rfl

section
variable {s : State} {f : IntakeFrame}

theorem acted_of_settle (h : eventOf s.pfd f = .settle) :
    acted s f = ((recorded (tracked s f) f).matchSettled
      (liveSignature f.ink (s.page 0).setup.rotation (s.page 0).setup.mirror)).focusCheck := by
  rw [acted, h]
  exact (settle_eq _ f).trans (by rw [tracked_signature])

theorem acted_of_removal (h : eventOf s.pfd f = .removal) : acted s f = (tracked s f).removal := by rw [acted, h]

theorem acted_of_none (h : eventOf s.pfd f = .none) : acted s f = tracked s f := by rw [acted, h]

/-- The state the focus check of a settle event judges has the frame's Page Finder with its signature, and the lens bus
as it was. -/
theorem matched_pfd_lens (s : State) (f : IntakeFrame) (sig : Signature) :
    ((recorded (tracked s f) f).matchSettled sig).pfd =
        { judged s.pfd f with liveSig := some ((tracked s f).settledSignature f) }
      ∧ ((recorded (tracked s f) f).matchSettled sig).lens = s.lens :=
  ⟨(State.matchSettled_change _ sig).pfd, (State.matchSettled_change _ sig).lens⟩

/-- A settle event whose focus check holds is one that starts a run (R74, R84). -/
theorem checksFocus_iff_startsRunAt (h : eventOf s.pfd f = .settle) (sig : Signature) :
    checksFocus ((recorded (tracked s f) f).matchSettled sig) ↔ s.startsRunAt f := by
  obtain ⟨hpfd, hlens⟩ := matched_pfd_lens s f sig
  obtain ⟨hst, hsettled⟩ := (eventOf_settle_iff s.pfd f).mp h
  rw [checksFocus, hpfd, hlens]
  show s.lens.autoFocus = true ∧ (judged s.pfd f).flags.focusLow = true ∧ (judged s.pfd f).run = .idle ↔ _
  rw [judged_flags, (judged_run s.pfd f).1]
  exact ⟨fun ⟨hon, hlow, hidle⟩ => ⟨hst, hsettled, hon, hidle, hlow⟩,
    fun ⟨_, _, hon, hidle, hlow⟩ => ⟨hon, hlow, hidle⟩⟩

theorem settle_of_startsRunAt (h : s.startsRunAt f) : eventOf s.pfd f = .settle :=
  (eventOf_settle_iff s.pfd f).mpr ⟨h.1, h.2.1⟩

theorem acted_starts (h : s.startsRunAt f) :
    (acted s f).pfd.run = .starting ∧ (acted s f).pfd.busyPolls = 0
      ∧ (acted s f).lens = if s.lens.auto.isSome then s.lens else s.lens.queueAuto .focusStart := by
  have hsettle := settle_of_startsRunAt h
  rw [acted_of_settle hsettle, focusCheck_starts ((checksFocus_iff_startsRunAt hsettle _).mpr h)]
  refine ⟨rfl, rfl, ?_⟩
  rw [← (matched_pfd_lens s f _).2]

theorem acted_not_starts (h : ¬ s.startsRunAt f) :
    (acted s f).pfd.run = s.pfd.run ∧ (acted s f).pfd.busyPolls = s.pfd.busyPolls ∧ (acted s f).lens = s.lens := by
  obtain ⟨hrun, hpolls⟩ := judged_run s.pfd f
  cases hevent : eventOf s.pfd f with
  | settle =>
    rw [acted_of_settle hevent, focusCheck_passes ((checksFocus_iff_startsRunAt hevent _).not.mpr h),
      (matched_pfd_lens s f _).1, (matched_pfd_lens s f _).2]
    exact ⟨hrun, hpolls, rfl⟩
  | removal =>
    rw [acted_of_removal hevent, State.removal, (State.stageFollowing_change _ _).pfd,
      (State.stageFollowing_change _ _).lens]
    exact ⟨hrun, hpolls, rfl⟩
  | none =>
    rw [acted_of_none hevent]
    exact ⟨hrun, hpolls, rfl⟩

/-- What an event's acts rewrite of the Page Finder. -/
theorem acted_pfd (s : State) (f : IntakeFrame) :
    (acted s f).pfd =
      { judged s.pfd f with
        liveSig := (acted s f).pfd.liveSig, liveCorners := (acted s f).pfd.liveCorners,
        run := (acted s f).pfd.run, busyPolls := (acted s f).pfd.busyPolls } := by
  cases hevent : eventOf s.pfd f with
  | settle => rw [acted_of_settle hevent, focusCheck_pfd, (matched_pfd_lens s f _).1]
  | removal => rw [acted_of_removal hevent, State.removal, (State.stageFollowing_change _ _).pfd]; rfl
  | none => rw [acted_of_none hevent]; rfl

theorem acted_live_of_settle (h : eventOf s.pfd f = .settle) :
    (acted s f).pfd.liveCorners = f.outline
      ∧ (acted s f).pfd.liveSig =
        some (liveSignature f.ink (s.page 0).setup.rotation (s.page 0).setup.mirror) := by
  rw [acted_of_settle h, focusCheck_pfd, (matched_pfd_lens s f _).1, tracked_signature]
  exact ⟨liveCorners_of_settle h, rfl⟩

theorem acted_live_of_removal (h : eventOf s.pfd f = .removal) :
    (acted s f).pfd.liveCorners = none ∧ (acted s f).pfd.liveSig = none := by
  rw [acted_of_removal h, State.removal, (State.stageFollowing_change _ _).pfd]
  exact ⟨rfl, rfl⟩

/-! ### Record 0 after the event (R74, R78) -/

theorem acted_setup_of_settle (h : eventOf s.pfd f = .settle) :
    ((acted s f).page 0).setup =
        { (s.page 0).setup with
          signature := some (liveSignature f.ink (s.page 0).setup.rotation (s.page 0).setup.mirror)
          corners := if s.pfd.settings.tracking = .off then (s.page 0).setup.corners else f.outline }
      ∧ ((acted s f).page 0).dirty = (s.page 0).dirty := by
  have hsettings : (tracked s f).pfd.settings = s.pfd.settings := judged_settings s.pfd f
  have hcorners : (tracked s f).pfd.liveCorners = f.outline := liveCorners_of_settle h
  rw [acted_of_settle h, page_of_bus (focusCheck_bus _), matchSettled_page, recorded_page_zero, tracked_page_zero,
    tracked_signature, hsettings, hcorners, trackedSetup]
  refine ⟨?_, rfl⟩
  by_cases hoff : s.pfd.settings.tracking = .off
  · simp only [hoff, if_true, reduceCtorEq, false_and, if_false]
  · simp only [hoff, if_false]

theorem acted_setup_of_not_settle (h : eventOf s.pfd f ≠ .settle) :
    ((acted s f).page 0).setup = trackedSetup s f := by
  cases hevent : eventOf s.pfd f with
  | settle => exact absurd hevent h
  | removal =>
    rw [acted_of_removal hevent, State.removal, (stageFollowing_staged _ _).page]
    exact congrArg Record.setup (tracked_page_zero s f)
  | none => rw [acted_of_none hevent, tracked_page_zero]

end

end Sys2Proof.Machine.FinderLaws
end

section
/-! SUPPORT. The close of an analysed frame: the quality report, the lamp counters and the offers of AUTO requests (R80
to R82, R84). -/

namespace Sys2Proof.Machine.FinderLaws

open StillLaws

/-! ### AUTO requests queued (R81, R171) -/

/-- The arbiter neither makes nor withdraws an AUTO request. -/
theorem arbitrate_eq (x : Lens) :
    x.arbitrate =
      { x with
        bus := x.arbitrate.bus, turn := x.arbitrate.turn, carried := x.arbitrate.carried,
        bridge := x.arbitrate.bridge } := by
  unfold Lens.arbitrate
  split
  · split
    · rfl
    · rfl
    · rfl
    · split <;> rfl
  · rfl

theorem queueAuto_auto (x : Lens) (k : AutoKind) : ∃ r, (x.queueAuto k).auto = some r ∧ r.kind = k := by
  unfold Lens.queueAuto
  rw [arbitrate_eq]
  exact ⟨_, rfl, rfl⟩

theorem queueAuto_autoLamp (x : Lens) (k : AutoKind) : (x.queueAuto k).autoLamp = x.autoLamp := by
  unfold Lens.queueAuto
  rw [arbitrate_eq]

/-- An AUTO request that stands is an earlier one, or a focus run's first. -/
def AutoFrom (x y : Lens) : Prop := ∀ r : AutoReq, y.auto = some r → x.auto = some r ∨ r.kind = .focusStart

theorem AutoFrom.refl (x : Lens) : AutoFrom x x := fun _ => .inl

theorem autoFrom_queueFocusStart (x y : Lens) : AutoFrom x (y.queueAuto .focusStart) := by
  intro r hr
  obtain ⟨q, hq, hkind⟩ := queueAuto_auto y .focusStart
  rw [hr] at hq
  exact .inr (Option.some.inj hq ▸ hkind)

theorem AutoFrom.trans {x y z : Lens} (h : AutoFrom x y) (k : AutoFrom y z) : AutoFrom x z := fun r hr =>
  (k r hr).elim (h r) .inr

/-! ### Offers change the lens bus and the lamp's requests alone (R81, R82, R84) -/

/-- The change reaches at most the lens bus, the lamp counters and the pending sync. -/
structure OfferChange (s t : State) : Prop where
  eq : t =
    { s with
      lens := t.lens
      pfd := { s.pfd with
        darkCount := t.pfd.darkCount, brightCount := t.pfd.brightCount, syncPending := t.pfd.syncPending } }

theorem OfferChange.refl (s : State) : OfferChange s s := ⟨rfl⟩

theorem OfferChange.trans {s t u : State} (h : OfferChange s t) (k : OfferChange t u) : OfferChange s u := by
  constructor
  rw [k.eq, h.eq]

theorem OfferChange.bus {s t : State} (h : OfferChange s t) : BusChange s t := by
  constructor
  rw [h.eq]

theorem OfferChange.pfd {s t : State} (h : OfferChange s t) :
    t.pfd =
      { s.pfd with
        darkCount := t.pfd.darkCount, brightCount := t.pfd.brightCount, syncPending := t.pfd.syncPending } := by
  rw [h.eq]

theorem OfferChange.link {s t : State} (h : OfferChange s t) : t.link = s.link := by rw [h.eq]

theorem countLight_offerChange (s : State) : OfferChange s s.countLight := ⟨rfl⟩

theorem queueLamp_offerChange (s : State) (level : Fin 16) (sync : Bool) : OfferChange s (s.queueLamp level sync) :=
  ⟨rfl⟩

theorem offerFocusStart_offerChange (s : State) : OfferChange s s.offerFocusStart := by
  rw [offerFocusStart_eq]; exact ⟨rfl⟩

theorem offerSync_offerChange (s : State) : OfferChange s s.offerSync := by
  unfold State.offerSync
  split
  · exact queueLamp_offerChange s _ _
  · exact .refl s

theorem offerStep_offerChange (s : State) : OfferChange s s.offerStep := by
  unfold State.offerStep
  split
  · split
    · exact queueLamp_offerChange s _ _
    · split
      · exact queueLamp_offerChange s _ _
      · exact .refl s
  · exact .refl s

theorem offered_offerChange (s : State) : OfferChange s (offered s) :=
  ((offerFocusStart_offerChange s).trans (offerSync_offerChange _)).trans (offerStep_offerChange _)

/-! ### Which offer is made (R81, R82, R84) -/

theorem offerSync_of_held {s : State} (h : s.lens.autoLamp = false ∨ s.lens.auto.isSome = true) : s.offerSync = s := by
  rw [State.offerSync, if_neg]
  rintro ⟨-, hlamp, hfree⟩
  rcases h with h | h <;> simp_all [Lens.autoFree]

theorem offerSync_of_not_pending {s : State} (h : s.pfd.syncPending = false) : s.offerSync = s := by
  rw [State.offerSync, if_neg]
  simp [h]

theorem offerSync_of_pending {s : State} (hsync : s.pfd.syncPending = true) (hlamp : s.lens.autoLamp = true)
    (hauto : s.lens.auto = none) : s.offerSync = s.queueLamp s.pfd.lamp true := by
  rw [State.offerSync, if_pos ⟨hsync, hlamp, by simp [Lens.autoFree, hauto]⟩]

theorem offerStep_of_held {s : State} (h : s.lens.autoLamp = false ∨ s.lens.auto.isSome = true) : s.offerStep = s := by
  rw [State.offerStep, if_neg]
  rintro ⟨hlamp, hfree, -⟩
  rcases h with h | h <;> simp_all [Lens.autoFree]

theorem offerFocusStart_of_not_starting {s : State} (h : s.pfd.run ≠ .starting) : s.offerFocusStart = s := by
  rw [offerFocusStart_eq, if_neg fun h' => h h'.1]

/-- Where auto-lamp is off, or a run starts or a request stands, no lamp write is offered. -/
theorem offered_of_held {s : State}
    (h : s.lens.autoLamp = false ∨ s.pfd.run = .starting ∨ s.lens.auto.isSome = true) :
    offered s = s.offerFocusStart := by
  have hlens : s.offerFocusStart.lens.autoLamp = false ∨ s.offerFocusStart.lens.auto.isSome = true := by
    rw [offerFocusStart_eq]
    by_cases hoffer : s.pfd.run = .starting ∧ s.lens.auto.isNone = true
    · obtain ⟨r, hr, -⟩ := queueAuto_auto s.lens .focusStart
      simp [hoffer, hr]
    · rw [if_neg hoffer]
      rcases h with hoff | hrun | hsome
      · exact .inl hoff
      · exact .inr (by simpa [hrun, Option.isSome_iff_ne_none] using hoffer)
      · exact .inr hsome
  rw [offered, offerSync_of_held hlens, offerStep_of_held hlens]

theorem offerFocusStart_autoFrom (s : State) : AutoFrom s.lens s.offerFocusStart.lens := by
  rw [offerFocusStart_eq]
  dsimp only
  split
  · exact autoFrom_queueFocusStart _ _
  · exact .refl _

/-- With the AUTO slot free, no run starting and auto-lamp on, a pending sync is queued and nothing after it (R81). -/
theorem offered_sync {s : State} (hrun : s.pfd.run ≠ .starting) (hauto : s.lens.auto = none)
    (hlamp : s.lens.autoLamp = true) (hsync : s.pfd.syncPending = true) :
    offered s = s.queueLamp s.pfd.lamp true := by
  obtain ⟨r, hr, -⟩ := queueAuto_auto s.lens (.lampSet s.pfd.lamp true)
  have hheld : (s.queueLamp s.pfd.lamp true).lens.auto.isSome = true := Option.isSome_iff_exists.mpr ⟨r, hr⟩
  rw [offered, offerFocusStart_of_not_starting hrun, offerSync_of_pending hsync hlamp hauto,
    offerStep_of_held (.inr hheld)]

/-- And without one a lamp step is, where a counter has reached 4 and the level can go that way (R82). -/
theorem offered_step {s : State} (hrun : s.pfd.run ≠ .starting) (hauto : s.lens.auto = none)
    (hlamp : s.lens.autoLamp = true) (hsync : s.pfd.syncPending = false) :
    offered s =
      if s.pfd.darkCount = 4 ∧ s.pfd.lamp.val < 15 then s.queueLamp (Fin.ofNat 16 (s.pfd.lamp.val + 1)) false
      else if s.pfd.brightCount = 4 ∧ 0 < s.pfd.lamp.val then
        s.queueLamp (Fin.ofNat 16 (s.pfd.lamp.val - 1)) false
      else s := by
  rw [offered, offerFocusStart_of_not_starting hrun, offerSync_of_not_pending hsync, State.offerStep,
    if_pos ⟨hlamp, by simp [Lens.autoFree, hauto], hsync⟩]

/-! ### The report (R80) -/

/-- The quality report after an analysed frame. -/
def newReport (p : Finder) : Quality :=
  match p.settings.report with
  | .perFrame => p.flags
  | .accumulate => p.report.union p.flags

theorem updateReport_eq (s : State) :
    s.updateReport =
      { s with
        pfd := { s.pfd with report := newReport s.pfd }
        link := { s.link with
          status := if (newReport s.pfd).any then s.link.status ||| Flag.only .quality else s.link.status } } := by
  have hreport : s.updateReport =
      if (newReport s.pfd).any then
        ({ s with pfd := { s.pfd with report := newReport s.pfd } } : State).setFlag .quality
      else { s with pfd := { s.pfd with report := newReport s.pfd } } := rfl
  rw [hreport]
  split <;> rfl

theorem updateReport_bus (s : State) : BusChange s s.updateReport := by rw [updateReport_eq]; exact ⟨rfl⟩

theorem updateReport_flags (s : State) : FlagsKept s s.updateReport := by
  rw [updateReport_eq]
  split
  · exact .of_or rfl
  · exact .of_eq rfl

theorem updateReport_quality {s : State} (h : (newReport s.pfd).any = true) : s.updateReport.hasFlag .quality = true :=
  hasFlag_of_or (by rw [updateReport_eq, if_pos h])

/-! ### The close of the frame -/

/-- The state after an analysed frame's report and lamp counters, before its offers (R80, R82). -/
def counted (s : State) (f : IntakeFrame) : State := (acted s f).updateReport.countLight

/-- The state at the end of an analysed frame. -/
def closed (s : State) (f : IntakeFrame) : State := offered (counted s f)

theorem counted_bus (s : State) (f : IntakeFrame) : BusChange (acted s f) (counted s f) :=
  (updateReport_bus _).trans (countLight_offerChange _).bus

theorem closed_bus (s : State) (f : IntakeFrame) : BusChange (acted s f) (closed s f) :=
  (counted_bus s f).trans (offered_offerChange _).bus

theorem closed_link (s : State) (f : IntakeFrame) : (closed s f).link = (acted s f).updateReport.link :=
  ((countLight_offerChange _).trans (offered_offerChange _)).link

theorem closed_flags (s : State) (f : IntakeFrame) : FlagsKept (acted s f) (closed s f) :=
  (updateReport_flags _).trans (.of_eq (congrArg Link.status (closed_link s f)))

/-- What the close rewrites of the Page Finder. -/
theorem closed_pfd (s : State) (f : IntakeFrame) :
    (closed s f).pfd =
      { (acted s f).pfd with
        report := newReport (acted s f).pfd
        darkCount := (closed s f).pfd.darkCount, brightCount := (closed s f).pfd.brightCount,
        syncPending := (closed s f).pfd.syncPending } := by
  have hoffers : OfferChange (acted s f).updateReport (closed s f) :=
    (countLight_offerChange _).trans (offered_offerChange _)
  have hreport : (acted s f).updateReport.pfd = { (acted s f).pfd with report := newReport (acted s f).pfd } := by
    rw [updateReport_eq]
  rw [hoffers.pfd, hreport]

/-- What the events and the close of a frame leave of its judgement. -/
theorem closed_judged (s : State) (f : IntakeFrame) :
    (closed s f).pfd =
      { judged s.pfd f with
        liveSig := (acted s f).pfd.liveSig, liveCorners := (acted s f).pfd.liveCorners,
        run := (acted s f).pfd.run, busyPolls := (acted s f).pfd.busyPolls,
        report := newReport (judged s.pfd f)
        darkCount := (closed s f).pfd.darkCount, brightCount := (closed s f).pfd.brightCount,
        syncPending := (closed s f).pfd.syncPending } := by
  rw [closed_pfd, acted_pfd]
  rfl

/-- An analysed frame ends in the close of the state its analysis begins in. -/
theorem analysed_frame_ends {s : State} {f : IntakeFrame} (hprogress : s.sin.inProgress = true)
    (hfull : f.full = true) (hrunning : s.sin.st = .running) :
    ∃ u, FillsKeep s u ∧ exec (.intakeFrameEnd f) s = .next (closed u f) := by
  refine ⟨framed s f, framed_running hrunning f, ?_⟩
  rw [exec_intakeFrameEnd_analysed hprogress hfull hrunning, analyse_eq]
  rfl

/-- A settling frame is an analysed one whose event is the settle event. -/
theorem settling_frame_ends {s : State} {f : IntakeFrame} {c : Corners} (h : s.settlesAt f c) :
    ∃ u, FillsKeep s u ∧ exec (.intakeFrameEnd f) s = .next (closed u f) ∧ eventOf u.pfd f = .settle := by
  have ⟨hprogress, hfull, hrunning, _⟩ := h
  obtain ⟨u, hbase, hexec⟩ := analysed_frame_ends hprogress hfull hrunning
  exact ⟨u, hbase, hexec, by rw [hbase.pfd]; exact eventOf_settlesAt h⟩

end Sys2Proof.Machine.FinderLaws
end

section
/-! SUPPORT. What every analysed frame does to the measures, the flags, the report, the finder state and the lamp (R71,
R72, R79 to R82). -/

namespace Sys2Proof.Machine.FinderLaws

open StillLaws

/-! ### Measures, flags, report and state (R71, R72, R79, R80) -/

theorem any_of_ne_empty {q : Quality} (h : q ≠ ⟨false, false, false, false⟩) : q.any = true := by
  contrapose! h
  obtain ⟨focusLow, dark, bright, glare⟩ := q
  simpa [Quality.any, and_assoc] using h

theorem analysedFrameUpdatesQuality : Says.AnalysedFrameUpdatesQuality := by
  intro s f hprogress hfull hrunning
  obtain ⟨u, hbase, hexec⟩ := analysed_frame_ends hprogress hfull hrunning
  have hclosed := closed_judged u f
  rw [hbase.pfd] at hclosed
  have hflags : (closed u f).pfd.flags = (judged s.pfd f).flags := by rw [hclosed]
  have hreport : (closed u f).pfd.report = newReport (judged s.pfd f) := by rw [hclosed]
  refine ⟨_, hexec, ?latest, ?flags, ?held, ?previous, fun hmode => ?perFrame, fun hmode => ?accumulate,
    fun hany => ?quality⟩
  case latest => rw [hclosed]; exact judged_latest s.pfd f
  case flags => rw [hflags, judged_flags]
  case held => rw [hclosed]; exact judged_focusLowHeld s.pfd f
  case previous => rw [hclosed]; exact judged_hasPrevious s.pfd f
  case perFrame => rw [hreport, hflags, newReport, judged_settings, hmode]
  case accumulate => rw [hreport, hflags, newReport, judged_settings, hmode, judged_report]; rfl
  case quality =>
    have hraised : (acted u f).updateReport.hasFlag .quality = true := by
      apply updateReport_quality
      rw [closed_pfd] at hany
      exact any_of_ne_empty hany
    exact FlagsKept.of_eq (congrArg Link.status (closed_link _ f)) .quality hraised

theorem finderFollowsStateTable : Says.FinderFollowsStateTable := by
  intro s f hprogress hfull hrunning
  obtain ⟨u, hbase, hexec⟩ := analysed_frame_ends hprogress hfull hrunning
  refine ⟨_, hexec, ?_⟩
  rw [closed_judged, hbase.pfd]
  exact judged_movesTo s.pfd f

/-! ### The lamp (R81, R82) -/

theorem lampCount_eq (on : Bool) (p : Prop) [Decidable p] (n : Nat) :
    lampCount on (decide p) n = if on = true ∧ p then min 4 (n + 1) else 0 := by
  simp [lampCount]

section
variable (s : State) (f : IntakeFrame)

theorem counted_lens : (counted s f).lens = (acted s f).lens := by
  show (acted s f).updateReport.lens = _
  rw [updateReport_eq]

theorem counted_run : (counted s f).pfd.run = (acted s f).pfd.run := by
  show (acted s f).updateReport.pfd.run = _
  rw [updateReport_eq]

theorem counted_lamp :
    (counted s f).pfd.lamp = s.pfd.lamp ∧ (counted s f).pfd.syncPending = s.pfd.syncPending := by
  show (acted s f).updateReport.pfd.lamp = _ ∧ (acted s f).updateReport.pfd.syncPending = _
  rw [updateReport_eq, acted_pfd]
  exact ⟨(judged_lamp s.pfd f).1, (judged_lamp s.pfd f).2.1⟩

theorem acted_autoFrom : AutoFrom s.lens (acted s f).lens := by
  by_cases h : s.startsRunAt f
  · rw [(acted_starts h).2.2]
    split
    · exact .refl _
    · exact autoFrom_queueFocusStart _ _
  · rw [(acted_not_starts h).2.2]
    exact .refl _

theorem acted_autoLamp : (acted s f).lens.autoLamp = s.lens.autoLamp := by
  by_cases h : s.startsRunAt f
  · rw [(acted_starts h).2.2]
    split
    · rfl
    · exact queueAuto_autoLamp _ _
  · rw [(acted_not_starts h).2.2]

theorem counted_counts :
    (counted s f).pfd.darkCount =
        (if s.lens.autoLamp = true ∧ f.light.val ≤ s.pfd.settings.dark then min 4 (s.pfd.darkCount + 1) else 0)
      ∧ (counted s f).pfd.brightCount =
        if s.lens.autoLamp = true ∧ s.pfd.settings.bright ≤ f.light.val then min 4 (s.pfd.brightCount + 1) else 0 := by
  obtain ⟨-, -, hdark, hbright⟩ := judged_lamp s.pfd f
  have hflags := judged_flags s.pfd f
  rw [← lampCount_eq, ← lampCount_eq, ← acted_autoLamp s f, ← hdark, ← hbright]
  show lampCount (acted s f).updateReport.lens.autoLamp (acted s f).updateReport.pfd.flags.dark
        (acted s f).updateReport.pfd.darkCount = _
      ∧ lampCount (acted s f).updateReport.lens.autoLamp (acted s f).updateReport.pfd.flags.bright
        (acted s f).updateReport.pfd.brightCount = _
  rw [updateReport_eq, acted_pfd]
  dsimp only
  rw [hflags]
  exact ⟨rfl, rfl⟩

/-- A lamp write is held off by an AUTO request that stands, and by a focus run that starts. -/
def lampHeld : Prop := s.lens.auto.isSome = true ∨ s.pfd.run = .starting ∨ s.startsRunAt f

end

section
variable {s : State} {f : IntakeFrame}

theorem counted_of_held (h : lampHeld s f) :
    (counted s f).pfd.run = .starting ∨ (counted s f).lens.auto.isSome = true := by
  rw [counted_run, counted_lens]
  by_cases hstarts : s.startsRunAt f
  · exact .inl (acted_starts hstarts).1
  · rw [(acted_not_starts hstarts).1, (acted_not_starts hstarts).2.2]
    rcases h with hsome | hrun | hrun
    · exact .inr hsome
    · exact .inl hrun
    · exact absurd hrun hstarts

theorem counted_of_free (h : ¬ lampHeld s f) :
    (counted s f).pfd.run ≠ .starting ∧ (counted s f).lens = s.lens ∧ s.lens.auto = none := by
  have hstarts : ¬ s.startsRunAt f := fun h' => h (.inr (.inr h'))
  rw [counted_run, counted_lens, (acted_not_starts hstarts).1, (acted_not_starts hstarts).2.2]
  exact ⟨fun h' => h (.inr (.inl h')), rfl, by simpa using fun h' => h (.inl h')⟩

theorem closed_of_held (h : s.lens.autoLamp = false ∨ lampHeld s f) :
    closed s f = (counted s f).offerFocusStart := by
  refine offered_of_held (h.imp (fun hoff => ?_) counted_of_held)
  rw [counted_lens, acted_autoLamp, hoff]

theorem closed_autoFrom (h : s.lens.autoLamp = false ∨ lampHeld s f) : AutoFrom s.lens (closed s f).lens := by
  rw [closed_of_held h]
  have hfrom := offerFocusStart_autoFrom (counted s f)
  rw [counted_lens] at hfrom
  exact (acted_autoFrom s f).trans hfrom

end

theorem startsRunAt_congr {s t : State} (hpfd : t.pfd = s.pfd) (hlens : t.lens = s.lens) (f : IntakeFrame) :
    t.startsRunAt f ↔ s.startsRunAt f := by
  simp only [State.startsRunAt, hpfd, hlens]

theorem queueLamp_queues (s : State) (level : Fin 16) (sync : Bool) :
    (s.queueLamp level sync).lens = s.lens.queueAuto (.lampSet level sync)
      ∧ (s.queueLamp level sync).pfd.darkCount = 0 ∧ (s.queueLamp level sync).pfd.brightCount = 0
      ∧ (s.queueLamp level sync).pfd.syncPending = (s.pfd.syncPending && !sync) := ⟨rfl, rfl, rfl, rfl⟩

theorem lampRequestsFollowCounters : Says.LampRequestsFollowCounters := by
  intro s f hprogress hfull hrunning dark bright held
  obtain ⟨u, hbase, hexec⟩ := analysed_frame_ends hprogress hfull hrunning
  have hpfd := hbase.pfd
  have hlens := hbase.lens
  have hheld : held ↔ lampHeld u f := by
    rw [lampHeld, hpfd, hlens, startsRunAt_congr hpfd hlens]
  obtain ⟨hlamp, hsync⟩ := counted_lamp u f
  obtain ⟨hdark, hbright⟩ := counted_counts u f
  rw [hpfd] at hlamp hsync
  rw [hpfd, hlens] at hdark hbright
  have hclosedLamp : (closed u f).pfd.lamp = s.pfd.lamp := by
    rw [closed, (offered_offerChange _).pfd, hlamp]
  refine ⟨_, hexec, hclosedLamp, fun h => ?held, fun hon hfree => ?free⟩
  case held =>
    rw [hheld, ← hlens] at h
    refine ⟨?_, ?_, ?_, fun r hr => hlens ▸ closed_autoFrom h r hr⟩
    all_goals rw [closed_of_held h, offerFocusStart_eq]
    exacts [hsync, hdark, hbright]
  case free =>
    rw [hheld] at hfree
    obtain ⟨hrun, hcountedLens, hauto⟩ := counted_of_free hfree
    have hauto' : (counted u f).lens.auto = none := by rw [hcountedLens, hauto]
    have hon' : (counted u f).lens.autoLamp = true := by rw [hcountedLens, hlens, hon]
    rw [hlens] at hcountedLens
    rw [← hsync, ← hlamp]
    refine ⟨?done, fun hpending => ?sync, fun hpending => ?step⟩
    case sync =>
      rw [closed, offered_sync hrun hauto' hon' hpending, ← hcountedLens]
      exact ⟨rfl, rfl, rfl⟩
    case done =>
      cases hpending : (counted u f).pfd.syncPending with
      | true => rw [closed, offered_sync hrun hauto' hon' hpending, (queueLamp_queues _ _ _).2.2.2, hpending]; rfl
      | false =>
        rw [closed, offered_step hrun hauto' hon' hpending]
        split
        · rw [(queueLamp_queues _ _ _).2.2.2, hpending]; rfl
        · split
          · rw [(queueLamp_queues _ _ _).2.2.2, hpending]; rfl
          · exact hpending
    case step =>
      rw [closed, offered_step hrun hauto' hon' hpending]
      rw [show dark = (counted u f).pfd.darkCount from hdark.symm,
        show bright = (counted u f).pfd.brightCount from hbright.symm, ← hcountedLens]
      refine ⟨fun level hcount hlevel => ?up, fun level hnot hcount hlevel => ?down, fun hnotUp hnotDown => ?none⟩
      case up =>
        have hroom : (counted u f).pfd.lamp.val < 15 := by omega
        have hnext : Fin.ofNat 16 ((counted u f).pfd.lamp.val + 1) = level := Fin.ext (by simp [← hlevel])
        rw [if_pos ⟨hcount, hroom⟩, hnext]
        exact ⟨rfl, rfl, rfl⟩
      case down =>
        have hroom : 0 < (counted u f).pfd.lamp.val := by omega
        have hnext : Fin.ofNat 16 ((counted u f).pfd.lamp.val - 1) = level := by
          apply Fin.ext
          have hlt := level.isLt
          simp only [Fin.ofNat, ← hlevel, Nat.add_sub_cancel]
          omega
        rw [if_neg (by omega), if_pos ⟨hcount, hroom⟩, hnext]
        exact ⟨rfl, rfl, rfl⟩
      case none =>
        rw [if_neg (by omega), if_neg (by omega)]
        exact ⟨rfl, rfl, rfl⟩

theorem syncAtUnanalysedFrames : Says.SyncAtUnanalysedFrames := by
  intro s f hprogress hfull hnotRunning hnotStarting
  obtain ⟨hlens, hlamp, hrun, hsync, hdark, hbright⟩ := framed_lampStands s f
  have hexec := exec_intakeFrameEnd_unanalysed hprogress hfull hnotRunning
  generalize framed s f = u at hlens hlamp hrun hsync hdark hbright hexec
  rw [offerFocusStart_of_not_starting (hrun ▸ hnotStarting)] at hexec
  refine ⟨_, hexec, ?lamp, fun hpending hon hauto => ?queued, fun hnot => ?stands⟩
  case lamp => rw [(offerSync_offerChange u).pfd, hlamp]
  case queued =>
    rw [offerSync_of_pending (hsync.trans hpending) (by rw [hlens, hon]) (by rw [hlens, hauto]), ← hlens, ← hlamp]
    exact ⟨rfl, by rw [(queueLamp_queues u _ _).2.2.2, Bool.not_true, Bool.and_false], rfl, rfl⟩
  case stands =>
    have hsame : u.offerSync = u := by
      rcases hnot with hnot | hnot
      · exact offerSync_of_not_pending (hsync.trans hnot)
      · exact offerSync_of_held (by rwa [hlens])
    rw [hsame]
    exact ⟨hlens, hsync, hdark, hbright⟩

/-- Settles O21: the judgement of the frame, the table of R72, and which lamp request the counters and the AUTO slot
give. -/
theorem analysedFrames : Obligations.AnalysedFrames :=
  ⟨analysedFrameUpdatesQuality, finderFollowsStateTable, lampRequestsFollowCounters, syncAtUnanalysedFrames⟩

end Sys2Proof.Machine.FinderLaws
end

section
/-! SUPPORT. What a settle event and a removal event do to record 0, the focus run, the matcher and the views (R74 to
R78, R84, R93 to R95). -/

namespace Sys2Proof.Machine.FinderLaws

open StillLaws MatcherLaws

/-! ### Attention flags and views at a frame's end -/

theorem matchSettled_flags (s : State) (sig : Signature) : FlagsKept s (s.matchSettled sig) := by
  have hstaged (u : State) (sel : Selection) (f : Flag) (hu : u.link = s.link) :
      FlagsKept s ((u.stageFollowing sel).setFlag f) :=
    .of_or (by rw [State.setFlag_link, (stageFollowing_staged u sel).link, hu])
  unfold State.matchSettled
  split
  · split
    · split
      · exact hstaged _ _ _ rfl
      · exact hstaged _ _ _ rfl
    · exact .refl s
  · exact .refl s

section
variable {s : State} {f : IntakeFrame}

/-- Of records, lessons and views, the end of a settling frame has what its matcher left. -/
theorem closed_bus_of_settle (h : eventOf s.pfd f = .settle) :
    BusChange ((recorded (tracked s f) f).matchSettled
      (liveSignature f.ink (s.page 0).setup.rotation (s.page 0).setup.mirror)) (closed s f) := by
  have hclosed := closed_bus s f
  rw [acted_of_settle h] at hclosed
  exact (focusCheck_bus _).trans hclosed

theorem closed_flags_of_settle (h : eventOf s.pfd f = .settle) :
    FlagsKept ((recorded (tracked s f) f).matchSettled
      (liveSignature f.ink (s.page 0).setup.rotation (s.page 0).setup.mirror)) (closed s f) := by
  have hclosed := closed_flags s f
  rw [acted_of_settle h] at hclosed
  exact (FlagsKept.of_eq (congrArg Link.status (focusCheck_link _))).trans hclosed

end

/-! ### The settle event (R74, R75, R78) -/

theorem settleEventWritesRecordZero : Says.SettleEventWritesRecordZero := by
  intro s f c h
  have ⟨_, _, _, _, _, houtline, _⟩ := h
  obtain ⟨u, hbase, hexec, hsettle⟩ := settling_frame_ends h
  obtain ⟨hcorners, hsig⟩ := acted_live_of_settle hsettle
  obtain ⟨hsetup, hdirty⟩ := acted_setup_of_settle hsettle
  rw [hbase.setup] at hsig hsetup
  rw [hbase.pfd, houtline] at hsetup
  have hpage := page_of_bus (closed_bus u f) 0
  have hclosedSig : (closed u f).pfd.liveSig = (acted u f).pfd.liveSig := by rw [closed_judged]
  refine ⟨_, hexec, ?st, ?corners, ?sig, ?setup, ?dirty, ?settled⟩
  case st =>
    rw [closed_judged]
    exact (judged_st u.pfd f).trans ((eventOf_settle_iff u.pfd f).mp hsettle).2
  case corners => rw [closed_judged]; exact hcorners.trans houtline
  case sig => rw [hclosedSig, hsig]
  case setup => rw [hpage, hclosedSig, hsetup, hsig]
  case dirty => rw [hpage, hdirty, hbase.dirty]
  case settled =>
    exact ((matchSettled_flags _ _).trans (closed_flags_of_settle hsettle)) .settled (recorded_settled _ f)

theorem settleEventStartsFocusRun : Says.SettleEventStartsFocusRun := by
  intro s f c h
  obtain ⟨u, hbase, hexec, hsettle⟩ := settling_frame_ends h
  have hflags : (closed u f).pfd.flags = flagsOf u.pfd f.focus.val f.light.val f.glare.val := by
    rw [closed_judged]; exact judged_flags u.pfd f
  have hrun : (closed u f).pfd.run = (acted u f).pfd.run := by rw [closed_judged]
  have hpolls : (closed u f).pfd.busyPolls = (acted u f).pfd.busyPolls := by rw [closed_judged]
  obtain ⟨hst, hmoves⟩ := (eventOf_settle_iff u.pfd f).mp hsettle
  rw [← hbase.lens, ← hbase.pfd]
  refine ⟨_, hexec, fun hon hlow hidle => ?starts, fun hnot => ?stands⟩
  case starts =>
    have hstarts : u.startsRunAt f := ⟨hst, hmoves, hon, hidle, hflags ▸ hlow⟩
    obtain ⟨hstarting, hzero, hlens⟩ := acted_starts hstarts
    refine ⟨hrun.trans hstarting, hpolls.trans hzero, ?_⟩
    have htaken : (counted u f).lens.auto.isNone ≠ true := by
      obtain ⟨r, hr, -⟩ := queueAuto_auto u.lens .focusStart
      rw [counted_lens, hlens]
      split
      · next hsome => simpa using Option.isSome_iff_ne_none.mp hsome
      · simp [hr]
    rw [closed_of_held (.inr (.inr (.inr hstarts))), offerFocusStart_eq, if_neg fun h' => htaken h'.2, counted_lens,
      hlens]
  case stands =>
    have hstarts : ¬ u.startsRunAt f := by
      rintro ⟨-, -, hon, hidle, hlow⟩
      rw [← hflags] at hlow
      rcases hnot with hoff | hclear | hbusy
      · exact Bool.false_ne_true (hoff.symm.trans hon)
      · exact Bool.false_ne_true (hclear.symm.trans hlow)
      · exact hbusy hidle
    obtain ⟨hsame, hsamePolls, -⟩ := acted_not_starts hstarts
    exact ⟨hrun.trans hsame, hpolls.trans hsamePolls⟩

/-! ### Tracking and removal (R77, R78) -/

theorem trackingWritesCorners : Says.TrackingWritesCorners := by
  intro s f hprogress hfull hrunning
  obtain ⟨u, hbase, hexec⟩ := analysed_frame_ends hprogress hfull hrunning
  have hcorners : ((closed u f).page 0).setup.corners =
      if s.pfd.settings.tracking ≠ .off ∧ eventOf s.pfd f = .settle then f.outline
      else if s.pfd.settings.tracking = .continuous ∧ f.outline.isSome = true then f.outline
      else (s.page 0).setup.corners := by
    rw [page_of_bus (closed_bus u f), ← hbase.pfd, ← hbase.setup 0]
    by_cases hsettle : eventOf u.pfd f = .settle
    · rw [(acted_setup_of_settle hsettle).1]
      by_cases hoff : u.pfd.settings.tracking = .off <;> simp [hoff, hsettle]
    · rw [acted_setup_of_not_settle hsettle, if_neg fun h => hsettle h.2]
      rfl
  refine ⟨_, hexec, fun c hcontinuous houtline => ?continuous, fun h => ?stands⟩
  case continuous =>
    rw [hcorners, hcontinuous, houtline]
    simp
  case stands =>
    rw [hcorners]
    rcases h with hoff | hnone
    · simp [hoff]
    · have hsettle : eventOf s.pfd f ≠ .settle := fun h => by
        have houtline := outline_of_settle h
        simp [hnone] at houtline
      simp [hnone, hsettle]

theorem removalEventStagesLive : Says.RemovalEventStagesLive := by
  intro s f hprogress hfull hrunning hst houtline hmissing
  obtain ⟨u, hbase, hexec⟩ := analysed_frame_ends hprogress hfull hrunning
  rw [← hbase.pfd] at hst hmissing
  obtain ⟨hevent, hempty⟩ := eventOf_removal hst houtline hmissing
  obtain ⟨hcorners, hsig⟩ := acted_live_of_removal hevent
  refine ⟨_, hexec, ?st, ?sig, ?corners, ?setup, fun v => ?view⟩
  case st => rw [closed_judged]; exact hempty
  case sig => rw [closed_judged]; exact hsig
  case corners => rw [closed_judged]; exact hcorners
  case setup =>
    rw [page_of_bus (closed_bus u f), acted_setup_of_not_settle (by rw [hevent]; exact nofun), trackedSetup, houtline,
      ← hbase.setup 0]
    simp
  case view =>
    have hview : u.view v = s.view v := congrArg (·.get v) hbase.views
    rw [view_of_bus (closed_bus u f), acted_of_removal hevent, State.removal, stageFollowing_sel, ← hview]
    rfl

/-! ### The nibbles of a signature (R75) -/

theorem inkNibble_toNat {dark total : Nat} (hpos : 0 < total) (hle : dark ≤ total) :
    (inkNibble ⟨dark, total⟩).toNat = if dark = total then 15 else 16 * dark / total := by
  have hnibble : (inkNibble ⟨dark, total⟩).toNat = min 15 (16 * dark / total) := by
    rw [inkNibble, BitVec.toNat_ofNat]
    exact Nat.mod_eq_of_lt (by omega)
  rw [hnibble]
  split
  · next hfull => rw [hfull, Nat.mul_div_cancel _ hpos]; rfl
  · next hnot =>
    have hlt : 16 * dark / total < 16 := (Nat.div_lt_iff_lt_mul hpos).mpr (by omega)
    omega

theorem signatureNibbles : Says.SignatureNibbles := by
  refine ⟨fun dark total => inkNibble_toNat, fun ink n => ?_⟩
  have hcell : turnedCell .r0 false (n.val / 4) (n.val % 4) = n.val := Nat.div_add_mod n.val 4
  simp [liveSignature, hcell, List.getD_eq_getElem?_getD]

/-- Settles O22: record 0, the focus run and the views at the two events, the corners under tracking, and the
nibbles. -/
theorem settleAndRemoval : Obligations.SettleAndRemoval :=
  ⟨settleEventWritesRecordZero, settleEventStartsFocusRun, trackingWritesCorners, removalEventStagesLive,
    signatureNibbles⟩

/-! ### The matcher at a settle event (R74 step 5, R93 to R95) -/

theorem scan_congr {s t : State} {l : Fin 8} (probe : Signature) (horder : (t.lesson l).order = (s.lesson l).order)
    (hagrees : ∀ i ∈ (s.lesson l).order, t.agrees probe i = s.agrees probe i) : t.scan l probe = s.scan l probe := by
  unfold State.scan
  rw [horder]
  generalize (s.lesson l).order = order at hagrees
  induction order with
  | nil => rfl
  | cons i rest ih =>
    rw [List.findIdx?_cons, List.findIdx?_cons, hagrees i List.mem_cons_self,
      ih fun j hj => hagrees j (List.mem_cons_of_mem _ hj)]

theorem agrees_congr {s t : State} {i : Fin 64} (probe : Signature) (htolerance : t.tolerance = s.tolerance)
    (hsetup : (t.page i).setup = (s.page i).setup) : t.agrees probe i = s.agrees probe i := by
  simp only [State.agrees, htolerance, hsetup]

section
variable {s u : State} (hbase : FillsKeep s u) (f : IntakeFrame)
include hbase

/-- The settle event's own writes are of record 0, which no scan reaches where no order names it. -/
theorem recorded_scan {l : Fin 8} (hzero : (0 : Fin 64) ∉ (s.lesson l).order) (probe : Signature) :
    (recorded (tracked u f) f).scan l probe = s.scan l probe := by
  refine scan_congr probe (hbase.order l) fun i hi => agrees_congr probe hbase.tolerance ?_
  have hne : i ≠ 0 := fun h => hzero (h ▸ hi)
  rw [recorded_page_ne _ _ hne, tracked_page_ne _ _ hne, hbase.setup]

theorem recorded_gen (i : Fin 64) : ((recorded (tracked u f) f).page i).gen = (s.page i).gen := by
  by_cases hi : i = 0
  · rw [hi, recorded_page_zero, tracked_page_zero]
    exact hbase.gen 0
  · rw [recorded_page_ne _ _ hi, tracked_page_ne _ _ hi, hbase.gen]

theorem recorded_view (v : ViewId) : (recorded (tracked u f) f).view v = s.view v :=
  congrArg (·.get v) hbase.views

end

/-- A recall sets the cursor of its lesson alone (R94). -/
theorem stepped_cursor (s : State) (l m : Fin 8) (p : Nat) (i : Fin 64) :
    ((s.stepped l p i).lesson m).cursor = if m = l then some p else (s.lesson m).cursor := by
  have hlessons : (s.stepped l p i).lesson m = (s.modLesson l fun x => { x with cursor := some p }).lesson m :=
    congrArg (·[m]) (stageFollowing_staged _ _).lessons
  rw [hlessons, State.modLesson_lesson]
  by_cases hlm : l = m
  · rw [if_pos hlm, if_pos hlm.symm]
  · rw [if_neg hlm, if_neg (Ne.symm hlm)]

theorem stageFollowing_cursor (s : State) (sel : Selection) (m : Fin 8) :
    ((s.stageFollowing sel).lesson m).cursor = (s.lesson m).cursor :=
  congrArg (fun x : Vector Lesson 8 => x[m].cursor) (stageFollowing_staged s sel).lessons

theorem settleEventRunsMatcher : Says.SettleEventRunsMatcher := by
  intro s f c h hzero sig
  obtain ⟨u, hbase, hexec, hsettle⟩ := settling_frame_ends h
  have hbus := closed_bus_of_settle hsettle
  have hflags := closed_flags_of_settle hsettle
  rw [hbase.setup] at hbus hflags
  have hview := recorded_view hbase f
  have hgen := recorded_gen hbase f
  have hscan (l : Fin 8) := recorded_scan hbase f (hzero l) sig
  have hcursor : ∀ m, ((recorded (tracked u f) f).lesson m).cursor = (s.lesson m).cursor := hbase.cursor
  have horder : ∀ l, ((recorded (tracked u f) f).lesson l).order = (s.lesson l).order := hbase.order
  have hst : ∀ l, ((recorded (tracked u f) f).lesson l).st = (s.lesson l).st := hbase.st
  have hmatchOn : (recorded (tracked u f) f).matchOn = s.matchOn := hbase.matchOn
  have hactive : (recorded (tracked u f) f).active = s.active := hbase.active
  generalize recorded (tracked u f) f = m at hbus hflags hview hgen hscan hcursor horder hst hmatchOn hactive
  refine ⟨_, hexec, fun hoff => ?off, fun l hon hl hpresent => ?on⟩
  case off =>
    have hsame : m.matchSettled sig = m := matchSettled_off sig (by rwa [hmatchOn, hactive])
    refine ⟨fun v => ?_, fun l => ?_⟩
    · rw [view_of_bus hbus]
      exact (congrArg (·.view v) hsame).trans (hview v)
    · rw [lesson_of_bus hbus]
      exact (congrArg (fun t : State => (t.lesson l).cursor) hsame).trans (hcursor l)
  case on =>
    rw [← hmatchOn] at hon
    rw [← hactive] at hl
    rw [← hst] at hpresent
    rw [← hscan l, ← horder l]
    refine ⟨fun p i hp hi => ?agreed, fun hnone => ?none⟩
    case agreed =>
      have hmatched := matchSettled_recall hon hl hpresent hp hi
      refine ⟨fun n => ?_, fun v => ?_, hflags .recalled ?_⟩
      · rw [lesson_of_bus hbus, ← hcursor]
        exact (congrArg (fun t : State => (t.lesson n).cursor) hmatched).trans (stepped_cursor m l n p i)
      · rw [view_of_bus hbus, ← hview, ← hgen]
        exact (congrArg (fun t : State => (t.view v).staged.sel) hmatched).trans (stageFollowing_sel _ _ v)
      · exact (congrArg (·.hasFlag .recalled) hmatched).trans (hasFlag_of_or rfl)
    case none =>
      have hunmatch := matchSettled_unmatch hon hl hpresent hnone
      refine ⟨fun n => ?_, fun v => ?_, hflags .unmatched ?_⟩
      · rw [lesson_of_bus hbus, ← hcursor]
        exact (congrArg (fun t : State => (t.lesson n).cursor) hunmatch).trans (stageFollowing_cursor m .live n)
      · rw [view_of_bus hbus, ← hview]
        exact (congrArg (fun t : State => (t.view v).staged.sel) hunmatch).trans (stageFollowing_sel m .live v)
      · exact (congrArg (·.hasFlag .unmatched) hunmatch).trans (hasFlag_of_or rfl)

/-- Settles O24: the scan's first agreement, the matcher's act there and at a settle event, and MATCH.TRY's report. -/
theorem scansAndRecall : Obligations.ScansAndRecall :=
  ⟨scanFindsFirstAgreement, matcherActsAtSettle, settleEventRunsMatcher, matchTryReportsScan, matchTryRefusals⟩

end Sys2Proof.Machine.FinderLaws
end

section
/-! SUPPORT. The Page Matcher's comparison, and MATCH.SETUP (R91, R100). -/

namespace Sys2Proof.Machine.MatcherLaws

open LessonLaws StillLaws SettingsLaws

/-! ### Comparing a page with a record (R91) -/

/-- The two orders in which a nibble can exceed the other by 2 are one absolute difference (R91). -/
theorem nibbleMismatch_eq (a b : Nibble) :
    nibbleMismatch a b = decide (2 ≤ ((a.toNat : Int) - b.toNat).natAbs) := by
  rw [nibbleMismatch, ← Bool.decide_or, decide_eq_decide]
  omega

theorem mismatches_eq_countP (sig probe : Signature) (mask : BitVec 16) :
    mismatches sig mask probe =
      (List.finRange 16).countP fun n =>
        mask.getLsbD n.val && decide (2 ≤ ((sig[n].toNat : Int) - probe[n].toNat).natAbs) := by
  simp only [mismatches, List.countP_eq_length_filter, nibbleMismatch_eq]

/-- No nibble takes part under mask 0. -/
theorem mismatches_zero_mask (sig probe : Signature) : mismatches sig 0 probe = 0 := by
  rw [mismatches_eq_countP, List.countP_eq_zero]
  intro n _
  have hbit : (0 : BitVec 16).getLsbD n.val = false := BitVec.getLsbD_zero
  rw [hbit, Bool.false_and]
  exact Bool.false_ne_true

/-- A record is compared exactly when it is eligible: match enable on and signature present (R91). -/
theorem compare_eq_some_iff (x : Setup) (probe : Signature) (n : Nat) :
    x.compare probe = some n ↔
      x.matchEnable = true ∧ ∃ sig, x.signature = some sig ∧ mismatches sig x.sigMask probe = n := by
  unfold Setup.compare
  cases x.signature with
  | none => simp
  | some sig => cases x.matchEnable <;> simp

theorem agrees_iff_eligible (s : State) (i : Fin 64) (probe : Signature) :
    s.agrees probe i = true ↔
      (s.page i).setup.matchEnable = true ∧ ∃ sig, (s.page i).setup.signature = some sig
        ∧ mismatches sig (s.page i).setup.sigMask probe ≤ s.tolerance := by
  simp only [agrees_iff, compare_eq_some_iff]
  constructor
  · rintro ⟨_, ⟨hon, sig, hsig, rfl⟩, hle⟩
    exact ⟨hon, sig, hsig, hle⟩
  · rintro ⟨hon, sig, hsig, hle⟩
    exact ⟨_, ⟨hon, sig, hsig, rfl⟩, hle⟩

/-- Settles O23: the count under a mask, the records that agree, and mask 0. -/
theorem comparisonCountsMismatches : Obligations.ComparisonCountsMismatches :=
  ⟨fun sig probe mask => mismatches_eq_countP sig probe mask, agrees_iff_eligible, mismatches_zero_mask⟩

/-! ### MATCH.SETUP (R100) -/

theorem no_match_item_iff (enable : Option (Code Bool)) (tolerance : Option Nat) :
    (enable.isNone && tolerance.isNone) = true ↔ enable = none ∧ tolerance = none := by
  simp only [Bool.and_eq_true, Option.isNone_iff_eq_none]

theorem match_item_out_of_range_iff (enable : Option (Code Bool)) (tolerance : Option Nat) :
    (badItem enable || outside 0 3 tolerance) = true ↔
      enable = some .other ∨ ∃ n, tolerance = some n ∧ 3 < n := by
  simp only [Bool.or_eq_true, badItem_iff, outside_iff, Nat.not_lt_zero, false_or]

/-- Settles O25: the checks of R100 in its order, then the named items written over those that stand. -/
theorem matchSetupWritesSettings : Obligations.MatchSetupWritesSettings := by
  intro s lvl enable tolerance
  refine (conclude_check s (no_match_item_iff enable tolerance) .argument _ _).trans ?_
  rw [conclude_check s (match_item_out_of_range_iff enable tolerance), conclude_ownerCheck]
  -- The enable that stands after the write is read off once it is known to be absent, a value, or neither.
  rcases enable with - | - | - <;> rfl

end Sys2Proof.Machine.MatcherLaws
end

section
/-! SUPPORT. The Detail Engine's bands: the entry of an applied zoom, strengths, band sets, the rows of a band, and what
the enhancement does there (R103 to R110). -/

namespace Sys2Proof.Machine.DetailLaws

/-! ### Modes and strengths (R104, R105, R107) -/

theorem detailEntryOfZoom : Says.DetailEntryOfZoom := by
  refine ⟨fun z hlow hhigh => ?_, fun k z hk hlow hhigh => ?_, rfl⟩
  · unfold detailEntry
    split <;> omega
  · unfold detailEntry
    omega

/-- The factors of R104's table. -/
theorem modeFactor_of_table :
    ∀ p ∈ [(PageMode.text, 8), (.fineLine, 12), (.photo, 3), (.chart, 6), (.invert, 8)],
      p.1 ≠ .plain ∧ modeFactor p.1 = p.2 := by decide

@[simp] theorem strength_plain (base : Nat) (offset : Int) : strength base .plain offset = 0 := rfl

/-- Steps 2 to 4 of R107, in integers. -/
theorem strength_of_ne_plain (base : Nat) {m : PageMode} (offset : Int) (h : m ≠ .plain) :
    (strength base m offset : Int) = max 0 (min 255 (((base * modeFactor m / 8 : Nat) : Int) + offset)) := by
  unfold strength
  rw [if_neg h]
  omega

theorem bandStrength : Says.BandStrength := by
  intro base offset
  refine ⟨strength_plain base offset, fun m factor hmem => ?_⟩
  obtain ⟨hne, hfactor⟩ := modeFactor_of_table (m, factor) hmem
  rw [← show modeFactor m = factor from hfactor]
  exact strength_of_ne_plain base offset hne

/-! ### The bands of a frame (R103, R106, R108, R109) -/

theorem Detail.entry_val (d : Detail) (k : Fin 32) : d.entry k.val = d.table[k] := by
  simp [Detail.entry]

/-- The Detail Engine's band, by the entry of the frame's applied zoom, is the one the statements spell out. -/
theorem Detail.band_eq_bandShown (s : State) (i : Fin 64) (light : Option (Fin 16)) (k : Fin 32) (b : Fin 12) :
    s.dte.band k.val light ((s.page i).setup.effectiveMode b) = s.bandShown i light k b := by
  unfold Detail.band State.bandShown Setup.effectiveMode
  rw [Detail.entry_val]
  cases (s.page i).setup.overrides[b] <;> cases light <;> rfl

theorem isEnhanced_iff (kind : SourceKind) :
    kind.isEnhanced = true ↔ kind = .livePage ∨ kind = .pageStill := by
  cases kind <;> decide

theorem frameBands_enhanced (s : State) {kind : SourceKind} (h : Handle) (light : Option (Fin 16)) {z : Nat}
    {k : Fin 32} (hkind : kind.isEnhanced = true) (hk : detailEntry z = k.val) :
    s.frameBands kind (some h) light z = Vector.ofFn fun b => s.bandShown h.idx light k b := by
  unfold State.frameBands
  rw [hkind, hk]
  simp only [Detail.band_eq_bandShown]

/-- The light level of an enhanced frame is that of the latest measures, or that of its slot (R106). -/
theorem frameLight_enhanced (s : State) {kind : SourceKind} (slot : Option (Fin 24))
    (hkind : kind = .livePage ∨ kind = .pageStill) :
    s.frameLight kind slot =
      if kind = .livePage then s.pfd.latest.map fun m => m.light else slot.map fun j => (s.slot j).light := by
  rcases hkind with rfl | rfl
  · rfl
  · cases slot <;> rfl

theorem enhancedBands : Says.EnhancedBands := by
  intro s kind h z k hkind hk
  have henhanced := (isEnhanced_iff kind).mpr hkind
  refine ⟨fun light b => ?_, fun slot => ?_⟩
  · rw [frameBands_enhanced s h light henhanced hk]
    exact Vector.getElem_ofFn b.isLt
  · unfold State.bandSetOf
    rw [frameBands_enhanced s h _ henhanced hk, frameLight_enhanced s slot hkind, henhanced, hk]
    rfl

theorem unenhancedBands : Says.UnenhancedBands := by
  intro s kind record slot z hkind
  rcases hkind with rfl | rfl | rfl <;> rfl

/-! ### Bands of the page (R103, R125) -/

theorem bandOfRow_eq_iff (b row : Nat) :
    bandOfRow row = b ↔ 4096 * b ≤ 12 * row ∧ 12 * row < 4096 * (b + 1) := by
  unfold bandOfRow
  omega

/-- The first row of a band is the least whole number not below its upper edge. -/
theorem bandTop_le_iff (b row : Nat) : bandTop b ≤ row ↔ 4096 * b ≤ 12 * row := by
  unfold bandTop
  omega

theorem bandOfRow_eq_iff_between_tops (b row : Nat) :
    bandOfRow row = b ↔ bandTop b ≤ row ∧ row < bandTop (b + 1) := by
  rw [bandOfRow_eq_iff, bandTop_le_iff, ← Nat.not_le, ← Nat.not_le, bandTop_le_iff]

theorem bandOfRow_lt {row : Nat} (h : row < 4096) : bandOfRow row < 12 := by
  unfold bandOfRow
  omega

/-- The rows of a band that a window shows are those of the band within half the window's height of its centre. -/
theorem mem_bandRows_iff (b z y row : Nat) :
    ((bandRows b z y).top ≤ row ∧ row < (bandRows b z y).bottom) ↔
      (bandOfRow row = b ∧ y ≤ row + halfSize z ∧ row < y + halfSize z) := by
  rw [bandOfRow_eq_iff_between_tops]
  dsimp only [bandRows]
  omega

theorem bandsOfThePage : Says.BandsOfThePage :=
  ⟨fun b row => ⟨bandOfRow_eq_iff b row, bandOfRow_eq_iff_between_tops b row⟩, fun _ => bandOfRow_lt,
    mem_bandRows_iff⟩

/-! ### What the enhancement does (R104, R110) -/

/-- A step that gives nothing for some entries is made over the other entries alone. -/
theorem flatMap_filter_eq {α β : Type} (p : α → Bool) (f : α → List β) (l : List α) :
    (l.filter p).flatMap f = l.flatMap fun a => if p a then f a else [] := by
  induction l with
  | nil => rfl
  | cons a rest ih => cases hp : p a <;> simp [hp, ih]

theorem bandActs_eq (bands : Vector Band 12) (z y : Nat) :
    bandActs bands z y =
      ((List.finRange 12).filter fun b => (bandRows b.val z y).crossed).flatMap fun b =>
        bands[b].acts (bandRows b.val z y) :=
  (flatMap_filter_eq _ _ _).symm

theorem Band.acts_eq (x : Band) (rows : Strip) :
    x.acts rows =
      match x.inverted, decide (x.strength = 0) with
      | false, true => []
      | true, true => [.invert rows]
      | false, false => [.sharpen rows x.strength x.floor]
      | true, false => [.invert rows, .sharpen rows x.strength x.floor] := by
  unfold Band.acts
  obtain ⟨mode, strength, floor, inverted⟩ := x
  cases strength <;> cases inverted <;> rfl

theorem sharpenedContrast_le (strength : Nat) {floor : Nat} {contrast : Byte} (h : contrast.toNat ≤ floor) :
    sharpenedContrast strength floor contrast = contrast.toNat := if_pos h

theorem sharpenedContrast_lt (strength : Nat) {floor : Nat} {contrast : Byte} (h : floor < contrast.toNat) :
    sharpenedContrast strength floor contrast =
      contrast.toNat + strength * (Config.contrastGain contrast : Nat) := if_neg (Nat.not_le.mpr h)

theorem enhancementActs : Says.EnhancementActs := by
  refine ⟨bandActs_eq, Band.acts_eq, fun rows strength floor row greatest tone contrast => ?_,
    fun floor contrast => ⟨fun h strength => sharpenedContrast_le strength h, fun h => ?_, fun strength => ?_⟩⟩
  · exact ⟨fun hin => ⟨if_pos hin, if_pos hin⟩, fun hout => ⟨if_neg hout, if_neg hout⟩⟩
  · exact ⟨Config.contrastGain contrast, (Config.contrastGain contrast).pos,
      fun strength => sharpenedContrast_lt strength h⟩
  · -- No byte exceeds a noise floor of 255.
    exact sharpenedContrast_le strength (Nat.le_of_lt_succ contrast.isLt)

/-- Settles O26: the strength of R107, the bands of an enhanced frame, the rows of each, and the acts on them. -/
theorem bandStrengths : Obligations.BandStrengths :=
  ⟨bandStrength, enhancedBands, bandsOfThePage, enhancementActs⟩

end Sys2Proof.Machine.DetailLaws
end

section
/-! SUPPORT. DETAIL.TABLE and DETAIL.LIGHT (R111, R112). -/

namespace Sys2Proof.Machine.DetailLaws

open LessonLaws StillLaws

/-! ### Writes of consecutive entries -/

/-- A table with the values of a list written from a place on: what DETAIL.TABLE and DETAIL.LIGHT both do. -/
def writeFrom {α : Type} {n : Nat} [NeZero n] (v : Vector α n) (start : Nat) : List α → Vector α n
  | [] => v
  | a :: rest => writeFrom (v.set (Fin.ofNat n start) a) (start + 1) rest

theorem writeTable_eq_writeFrom (v : Vector DetailEntry 32) (start : Nat) (l : List DetailEntry) :
    writeTable v start l = writeFrom v start l := by
  induction l generalizing v start with
  | nil => rfl
  | cons e rest ih => exact ih _ _

theorem writeLight_eq_writeFrom (v : Vector Int 16) (start : Nat) (l : List Int) :
    writeLight v start l = writeFrom v start l := by
  induction l generalizing v start with
  | nil => rfl
  | cons o rest ih => exact ih _ _

/-- A list that does not run past the table's end: its value i stands at start + i, and every other entry is kept. -/
theorem getElem_writeFrom {α : Type} {n : Nat} [NeZero n] (v : Vector α n) {start : Nat} {l : List α}
    (hfit : start + l.length ≤ n) (k : Fin n) :
    (writeFrom v start l)[k] = if start ≤ k.val then (l[k.val - start]?).getD v[k] else v[k] := by
  induction l generalizing v start with
  | nil => simp [writeFrom]
  | cons a rest ih =>
    rw [List.length_cons] at hfit
    have hstart : (Fin.ofNat n start).val = start := Nat.mod_eq_of_lt (by omega)
    rw [writeFrom, ih _ (by omega)]
    simp only [Fin.getElem_fin, Vector.getElem_set, hstart]
    rcases Nat.lt_trichotomy k.val start with hlt | heq | hgt
    · rw [if_neg (by omega), if_neg (by omega), if_neg (by omega)]
    · have hfirst : k.val - start = 0 := by omega
      rw [if_neg (by omega), if_pos heq.symm, if_pos heq.ge, hfirst]
      rfl
    · have hnext : k.val - start = k.val - (start + 1) + 1 := by omega
      rw [if_pos (Nat.succ_le_of_lt hgt), if_neg (by omega), if_pos hgt.le, hnext, List.getElem?_cons_succ]

theorem writeFrom_eq_ofFn {α : Type} {n : Nat} [NeZero n] (v : Vector α n) {start : Nat} {l : List α}
    (hfit : start + l.length ≤ n) :
    writeFrom v start l =
      Vector.ofFn fun k => if start ≤ k.val then (l[k.val - start]?).getD v[k] else v[k] :=
  Vector.ext fun k hk => by
    rw [Vector.getElem_ofFn hk]
    exact getElem_writeFrom v hfit ⟨k, hk⟩

theorem writeTable_eq_ofFn (v : Vector DetailEntry 32) {start : Nat} {l : List DetailEntry}
    (hfit : start + l.length ≤ 32) :
    writeTable v start l =
      Vector.ofFn fun k => if start ≤ k.val then (l[k.val - start]?).getD v[k] else v[k] :=
  (writeTable_eq_writeFrom v start l).trans (writeFrom_eq_ofFn v hfit)

theorem writeLight_eq_ofFn (v : Vector Int 16) {start : Nat} {l : List Int} (hfit : start + l.length ≤ 16) :
    writeLight v start l =
      Vector.ofFn fun k => if start ≤ k.val then (l[k.val - start]?).getD v[k] else v[k] :=
  (writeLight_eq_writeFrom v start l).trans (writeFrom_eq_ofFn v hfit)

/-! ### The checks -/

theorem count_outside_iff (count most : Nat) :
    (decide (count < 1) || decide (most < count)) = true ↔ count < 1 ∨ most < count := by
  simp only [Bool.or_eq_true, decide_eq_true_eq]

theorem length_ne_count_iff {α : Type} (l : List α) (count : Nat) :
    (l.length != count) = true ↔ l.length ≠ count := bne_iff_ne

/-- A write that would end past the last place, told by the place of its last entry. -/
theorem runs_past_iff (start count last : Nat) :
    (decide (last < start) || decide (last + 1 < start + count)) = true ↔
      last < start ∨ last < start + count - 1 := by
  simp only [Bool.or_eq_true, decide_eq_true_eq]
  omega

theorem any_badOffset_iff (offsets : List Int) :
    offsets.any badOffset = true ↔ ∃ o ∈ offsets, o < -64 ∨ 63 < o := by
  simp only [List.any_eq_true, badOffset, Bool.or_eq_true, decide_eq_true_eq]

theorem light_out_of_range_iff (start count : Nat) (offsets : List Int) :
    (decide (15 < start) || decide (16 < start + count) || offsets.any badOffset) = true ↔
      15 < start ∨ 15 < start + count - 1 ∨ ∃ o ∈ offsets, o < -64 ∨ 63 < o := by
  rw [Bool.or_eq_true, runs_past_iff start count 15, any_badOffset_iff, or_assoc]

/-- After a check that has passed, what it tests is known of the rest. -/
theorem conclude_check_then (s : State) {b : Bool} {p : Prop} [Decidable p] (h : b = true ↔ p) (c : ResultCode)
    (checks : List Check) (act : Result) {rest : Host.Outcome State Fault Refusal}
    (hrest : ¬p → conclude (guarded s checks act) = rest) :
    conclude (guarded s ((b, c) :: checks) act) = if p then answers s c .empty else rest :=
  (conclude_check s h c checks act).trans (ite_congr rfl (fun _ => rfl) hrest)

theorem conclude_ownerCheck_doneWith (s t : State) (lvl : Level) (b : ReplyBody) :
    conclude (guarded s [ownerCheck lvl] (doneWith t b)) =
      if lvl = .presenter then answers s .locked .empty else answers t .ok b := by
  rw [conclude_guarded, firstFailure_ownerCheck]
  split <;> rfl

/-! ### The statements -/

theorem detailTableWrites : Says.DetailTableWrites := by
  intro s lvl start count entries
  refine conclude_check_then s (count_outside_iff count 29) .range _ _ fun _ => ?_
  refine conclude_check_then s (length_ne_count_iff entries count) .argument _ _ fun hlength => ?_
  refine conclude_check_then s (runs_past_iff start count 31) .range _ _ fun hrange => ?_
  have hfit : start + entries.length ≤ 32 := by omega
  rw [conclude_ownerCheck_doneWith, ← writeTable_eq_ofFn s.dte.table hfit]
  rfl

theorem detailLightWrites : Says.DetailLightWrites := by
  intro s lvl start count offsets
  refine conclude_check_then s (count_outside_iff count 16) .range _ _ fun _ => ?_
  refine conclude_check_then s (length_ne_count_iff offsets count) .argument _ _ fun hlength => ?_
  refine conclude_check_then s (light_out_of_range_iff start count offsets) .range _ _ fun hrange => ?_
  have hfit : start + offsets.length ≤ 16 := by omega
  rw [conclude_ownerCheck_doneWith, ← writeLight_eq_ofFn s.dte.light hfit]
  rfl

/-- Settles O27: each command's checks in the order of its rule, then one write from the start on that keeps every
other entry; the entries of the applied zooms; and the band sets of frames that are not enhanced. -/
theorem detailTables : Obligations.DetailTables :=
  ⟨detailTableWrites, detailLightWrites, detailEntryOfZoom, unenhancedBands⟩

end Sys2Proof.Machine.DetailLaws
end

section
/-! SUPPORT. VIEW.ZOOM, VIEW.PAN, VIEW.ROUTE and VIEW.MODE (R116, R129 to R132). -/

namespace Sys2Proof.Machine.ViewLaws

open StillLaws SettingsLaws DetailLaws

/-! ### The set and its views (R116) -/

/-- A command's change made to each view of a set. -/
theorem eachView_modView (s : State) (vs : ViewSet) (f : ViewCtx → ViewCtx) :
    (s.eachView vs fun t v => t.modView v f) = { s with views := onViews s.views vs f } := by
  simp only [State.eachView, viewsOf, ViewId.all, onViews, List.filter_cons, List.filter_nil]
  split_ifs <;> rfl

/-- A command's change made to the staged half of each view of a set. -/
theorem eachView_modStaged (s : State) (vs : ViewSet) (f : Half → Half) :
    (s.eachView vs fun t v => t.modStaged v f) =
      { s with views := onViews s.views vs fun c => { c with staged := f c.staged } } :=
  eachView_modView s vs _

/-- After the checks of its payload, a command that writes the views of its set makes the set's own checks. -/
theorem conclude_setChecks_modView (s : State) (vs : ViewSet) (f : ViewCtx → ViewCtx) :
    conclude (guarded s (setChecks vs) (done (s.eachView vs fun t v => t.modView v f))) =
      forSet s vs (answers { s with views := onViews s.views vs f } .ok .empty) := by
  rw [← List.append_nil (setChecks vs), conclude_setChecks, eachView_modView]
  rfl

theorem conclude_setChecks_modStaged (s : State) (vs : ViewSet) (f : Half → Half) :
    conclude (guarded s (setChecks vs) (done (s.eachView vs fun t v => t.modStaged v f))) =
      forSet s vs
        (answers { s with views := onViews s.views vs fun c => { c with staged := f c.staged } } .ok .empty) :=
  conclude_setChecks_modView s vs _

/-! ### VIEW.ZOOM and VIEW.PAN (R129, R130) -/

theorem zoom_isEmpty_iff (target rate : Option Nat) :
    (target.isNone && rate.isNone) = true ↔ target = none ∧ rate = none := by
  simp only [Bool.and_eq_true, Option.isNone_iff_eq_none]

theorem zoom_out_of_range_iff (target rate : Option Nat) :
    (outside 256 2048 target || outside 1 64 rate) = true ↔
      (∃ n, target = some n ∧ (n < 256 ∨ 2048 < n)) ∨ (∃ n, rate = some n ∧ (n < 1 ∨ 64 < n)) := by
  simp only [Bool.or_eq_true, outside_iff]

theorem pan_out_of_range_iff (x y : Nat) : (badCoord x || badCoord y) = true ↔ 4095 < x ∨ 4095 < y := by
  simp only [badCoord, Bool.or_eq_true, decide_eq_true_eq]

theorem viewZoomAndPan : Says.ViewZoomAndPan := by
  refine ⟨fun s vs target rate => ?zoom, fun s vs x y => ?pan⟩
  case zoom =>
    refine conclude_check_then s (zoom_isEmpty_iff target rate) .argument _ _ fun _ => ?_
    refine conclude_check_then s (zoom_out_of_range_iff target rate) .range _ _ fun _ => ?_
    exact conclude_setChecks_modStaged s vs _
  case pan =>
    refine conclude_check_then s (pan_out_of_range_iff x y) .range _ _ fun _ => ?_
    exact conclude_setChecks_modStaged s vs _

/-! ### VIEW.ROUTE (R131) -/

/-- The projector view cannot follow itself. -/
theorem follows_itself_iff (r : Route) (vs : ViewSet) :
    (Code.val r == .val .mirror && ViewId.inSet vs .proj) = true ↔ r = .mirror ∧ ViewId.proj.inSet vs := by
  simp

theorem viewRouteStages : Says.ViewRouteStages := by
  intro s lvl vs route
  cases route with
  | other => rfl
  | val r =>
    -- The payload's own check passes, as the route is one of the three.
    refine (conclude_setChecks s vs (_ :: [ownerCheck lvl]) _).trans (congrArg (forSet s vs) ?_)
    refine conclude_check_then s (follows_itself_iff r vs) .range _ _ fun _ => ?_
    rw [conclude_ownerCheck, eachView_modStaged]
    rfl

/-! ### VIEW.MODE (R132) -/

theorem mode_isEmpty_iff (mode : Option (Code ApplyMode)) (steady marks follow : Option (Code Bool)) :
    (mode.isNone && steady.isNone && marks.isNone && follow.isNone) = true ↔
      mode = none ∧ steady = none ∧ marks = none ∧ follow = none := by
  simp only [Bool.and_eq_true, Option.isNone_iff_eq_none, and_assoc]

theorem mode_out_of_range_iff (mode : Option (Code ApplyMode)) (steady marks follow : Option (Code Bool)) :
    (badItem mode || badItem steady || badItem marks || badItem follow) = true ↔
      mode = some .other ∨ steady = some .other ∨ marks = some .other ∨ follow = some .other := by
  simp only [Bool.or_eq_true, badItem_iff, or_assoc]

/-- VIEW.MODE's change of a view, once each of its fields is known. -/
theorem setMode_eq_of_items {form : ModeForm} {c : ViewCtx} {mode : ApplyMode} {armed steady marks follow : Bool}
    (hmode : itemOr form.applyMode c.applyMode = mode)
    (harmed : (if itemOr form.applyMode c.applyMode = c.applyMode then c.armed else false) = armed)
    (hsteady : itemOr form.steady c.staged.steady = steady)
    (hmarks : itemOr form.marksShown c.staged.marksShown = marks)
    (hfollow : itemOr form.follow c.staged.follow = follow) :
    c.setMode form =
      { c with
        applyMode := mode
        armed := armed
        staged := { c.staged with steady := steady, marksShown := marks, follow := follow } } := by
  subst hmode harmed hsteady hmarks hfollow
  rfl

/-- Past its payload's checks, VIEW.MODE makes those of its set and then its change of each view. -/
theorem conclude_setChecks_setMode (s : State) (vs : ViewSet) (form : ModeForm) {f : ViewCtx → ViewCtx}
    (hf : ∀ c, c.setMode form = f c) :
    conclude (guarded s (setChecks vs) (done (s.eachView vs fun t v => t.modView v fun c => c.setMode form))) =
      forSet s vs (answers { s with views := onViews s.views vs f } .ok .empty) := by
  rw [conclude_setChecks_modView, funext hf]

theorem viewModeWrites : Says.ViewModeWrites := by
  intro s vs mode steady marks follow
  refine conclude_check_then s (mode_isEmpty_iff mode steady marks follow) .argument _ _ fun _ => ?_
  refine conclude_check_then s (mode_out_of_range_iff mode steady marks follow) .range _ _ fun _ => ?_
  refine conclude_setChecks_setMode s vs _ fun c => setMode_eq_of_items ?mode ?armed ?steady ?marks ?follow
  case mode => rcases mode with - | - | - <;> rfl
  case armed =>
    -- The armed flag stays where the mode is not named, or is written as it stands.
    rcases mode with - | m | -
    · exact if_pos rfl
    · exact Bool.if_false_right _ _
    · exact if_pos rfl
  case steady => rcases steady with - | - | - <;> rfl
  case marks => rcases marks with - | - | - <;> rfl
  case follow => rcases follow with - | - | - <;> rfl

/-- Settles O32: each command's checks in the order of its rule, then the named items written into every view of the
set. -/
theorem viewStagedWrites : Obligations.ViewStagedWrites := ⟨viewZoomAndPan, viewRouteStages, viewModeWrites⟩

end Sys2Proof.Machine.ViewLaws
end

section
/-! SUPPORT. The ramp step, the applied zoom and the applied centre (R123 to R125). -/

namespace Sys2Proof.Machine.ViewLaws

/-! ### The ramp step (R123) -/

/-- A step toward the target that would reach or pass it ends on it. -/
theorem rampZoom_within {zoom target rate : Nat} (hup : zoom ≤ target + rate) (hdown : target ≤ zoom + rate) :
    rampZoom zoom target rate = target := by
  unfold rampZoom
  split
  · exact Nat.min_eq_left hdown
  · exact Nat.max_eq_left (Nat.sub_le_of_le_add hup)

theorem rampZoom_rising {zoom target rate : Nat} (h : zoom + rate < target) :
    rampZoom zoom target rate = zoom + rate := by
  have hbelow : zoom ≤ target := Nat.le_of_add_right_le h.le
  rw [rampZoom, if_pos hbelow, Nat.min_eq_right h.le]

theorem rampZoom_falling {zoom target rate : Nat} (h : target + rate < zoom) :
    rampZoom zoom target rate = zoom - rate := by
  have habove : ¬ zoom ≤ target := by omega
  rw [rampZoom, if_neg habove, Nat.max_eq_right (Nat.le_sub_of_add_le h.le)]

theorem rampStep : Says.RampStep := by
  intro zoom target rate
  refine ⟨fun hrest => ?_, rampZoom_within, rampZoom_rising, rampZoom_falling⟩
  subst hrest
  exact rampZoom_within (Nat.le_add_right zoom rate) (Nat.le_add_right zoom rate)

/-! ### The applied zoom (R124) -/

section
variable {zoom target phase : Nat} {steady : Bool}

theorem appliedZoom_multiple (h : zoom % 4 = 0) : appliedZoom zoom target steady phase = zoom := if_pos h

/-- While ramping, and with steady on, the floor. -/
theorem appliedZoom_floor (h : zoom % 4 ≠ 0) (hfloor : zoom ≠ target ∨ steady = true) :
    appliedZoom zoom target steady phase = zoom - zoom % 4 :=
  (if_neg h).trans (if_pos hfloor)

/-- At rest with steady off, the phase chooses between the floor and the multiple of 4 above it. -/
theorem appliedZoom_dithered (h : zoom % 4 ≠ 0) (hrest : zoom = target) (hsteady : steady = false) :
    appliedZoom zoom target steady phase = if phase < zoom % 4 then zoom - zoom % 4 + 4 else zoom - zoom % 4 := by
  have hdither : ¬ (zoom ≠ target ∨ steady = true) := by simp [hrest, hsteady]
  exact (if_neg h).trans (if_neg hdither)

/-- Every applied zoom is the current zoom, its floor, or the multiple of 4 above. -/
theorem appliedZoom_cases (zoom target phase : Nat) (steady : Bool) :
    appliedZoom zoom target steady phase = zoom
      ∨ appliedZoom zoom target steady phase = zoom - zoom % 4
      ∨ zoom % 4 ≠ 0 ∧ appliedZoom zoom target steady phase = zoom - zoom % 4 + 4 := by
  by_cases h : zoom % 4 = 0
  · exact .inl (appliedZoom_multiple h)
  by_cases hfloor : zoom ≠ target ∨ steady = true
  · exact .inr (.inl (appliedZoom_floor h hfloor))
  obtain ⟨hrest, hsteady⟩ : zoom = target ∧ steady = false := by simpa using hfloor
  rw [appliedZoom_dithered h hrest hsteady]
  split
  · exact .inr (.inr ⟨h, rfl⟩)
  · exact .inr (.inl rfl)

/-- The ends of the range are multiples of 4, so neither the floor nor the multiple above leaves it. -/
theorem appliedZoom_in_range (hlow : 256 ≤ zoom) (hhigh : zoom ≤ 2048) :
    256 ≤ appliedZoom zoom target steady phase ∧ appliedZoom zoom target steady phase ≤ 2048 := by
  obtain h | h | ⟨hr, h⟩ := appliedZoom_cases zoom target phase steady <;> rw [h] <;> omega

end

/-! ### The applied centre (R125) -/

/-- Only at the least zoom is the window wider than the interval of its centres. -/
theorem halfSize_le {z : Nat} (h : 256 < z) : halfSize z ≤ 2040 := Nat.div_le_div_left h (by decide)

theorem appliedCoord_clamped {z : Nat} (h : 256 < z) (pan : Nat) :
    appliedCoord pan z = max (halfSize z) (min pan (4095 - halfSize z)) := by
  have hhalf := halfSize_le h
  exact if_neg (by omega)

theorem appliedCoord_least_zoom (pan : Nat) : appliedCoord pan 256 = 2048 := if_pos (by decide)

/-- The window lies within the page. -/
theorem appliedCoord_within_page {z : Nat} (h : 256 ≤ z) (pan : Nat) :
    halfSize z ≤ appliedCoord pan z ∧ appliedCoord pan z + halfSize z ≤ 4096 := by
  obtain rfl | hz := h.eq_or_lt
  · rw [appliedCoord_least_zoom]
    decide
  · have hhalf := halfSize_le hz
    rw [appliedCoord_clamped hz]
    omega

theorem appliedZoomAndCentre : Says.AppliedZoomAndCentre := by
  refine ⟨fun zoom target phase steady => ⟨appliedZoom_multiple, appliedZoom_floor, ?above, ?floor,
    appliedZoom_in_range⟩, fun z pan hlow _ => ?centre⟩
  case above => exact fun hr hrest hsteady hphase => (appliedZoom_dithered hr hrest hsteady).trans (if_pos hphase)
  case floor =>
    exact fun hr hrest hsteady hphase =>
      (appliedZoom_dithered hr hrest hsteady).trans (if_neg (Nat.not_lt.mpr hphase))
  case centre =>
    obtain ⟨hstart, hend⟩ := appliedCoord_within_page hlow pan
    refine ⟨rfl, hstart, hend, fun hz => ?_, fun hz => appliedCoord_clamped hz pan⟩
    rw [hz, appliedCoord_least_zoom]

/-- Settles O35: the ramp step by where the target lies, the applied zoom by the table of R124, and the clamp of the
applied centre. -/
theorem rampAndAppliedZoom : Obligations.RampAndAppliedZoom := ⟨rampStep, appliedZoomAndCentre⟩

end Sys2Proof.Machine.ViewLaws
end

section
/-! SUPPORT. The frame periods of the ports, and STRM's while its sink is not ready (R136, R146). -/

namespace Sys2Proof.Machine.PortLaws

theorem exec_portFramePeriod (s : State) (v : ViewId) (ready : Bool) :
    exec (.portFramePeriod v ready) s = .next (s.framePeriod v ready) := rfl

/-! ### What a frame period comes to -/

/-- The frame in flight is the one thing a period asks before the port's state. -/
theorem framePeriod_of_inFlight {s : State} {v : ViewId} (h : (s.port v).frame.isSome) (ready : Bool) :
    s.framePeriod v ready = s := if_pos h

theorem framePeriod_of_off_or_stopping {s : State} {v : ViewId}
    (h : (s.port v).st = .off ∨ (s.port v).st = .stopping) (ready : Bool) : s.framePeriod v ready = s := by
  unfold State.framePeriod
  rcases h with h | h <;> simp [h]

/-- A period of STRM between frames, RUNNING or HOLDING, depends on the ready input alone. -/
theorem framePeriod_strm {s : State} (hframe : s.ports.strm.frame = none)
    (hst : s.ports.strm.st = .running ∨ s.ports.strm.st = .holding) (ready : Bool) :
    s.framePeriod .strm ready = if ready then s.strmReady else s.stall := by
  have hidle : ¬ (s.port .strm).frame.isSome := by simp [State.port, Trio.get, hframe]
  refine (if_neg hidle).trans ?_
  obtain h | h : (s.port .strm).st = .running ∨ (s.port .strm).st = .holding := hst <;> rw [h]

/-! ### The stall count (R146) -/

/-- STRM held by its sink at a stall count. -/
def holdStrm (s : State) (n : Nat) : State :=
  s.modPort .strm fun p => { p with st := .holding, ready := false, stall := n }

theorem stall_of_running {s : State} (h : s.ports.strm.st = .running) : s.stall = holdStrm s 1 := by
  simp [State.stall, holdStrm, h]

theorem stall_below_limit {s : State} (h : s.ports.strm.st = .holding) (hlow : s.ports.strm.stall < 59) :
    s.stall = holdStrm s (s.ports.strm.stall + 1) := by
  have hcount : min 60 (s.ports.strm.stall + 1) = s.ports.strm.stall + 1 := by omega
  have hlimit : s.ports.strm.stall ≠ 59 := hlow.ne
  simp [State.stall, holdStrm, h, hcount, hlimit]

theorem stall_at_limit {s : State} (h : s.ports.strm.st = .holding) (hhigh : 59 ≤ s.ports.strm.stall) :
    s.stall = (holdStrm s 60).setFlag .strmStalled := by
  have hcount : min 60 (s.ports.strm.stall + 1) = 60 := by omega
  simp [State.stall, holdStrm, h, hcount]

/-- Holding a HOLDING port writes its ready line and its stall count alone. -/
theorem holdStrm_of_holding {s : State} (h : s.ports.strm.st = .holding) (n : Nat) :
    holdStrm s n = { s with ports := { s.ports with strm := { s.ports.strm with ready := false, stall := n } } } := by
  simp [holdStrm, State.modPort, State.port, Trio.get, Trio.set, h]

/-! ### The sink ready again (R146) -/

/-- STRM as it runs again. -/
def runStrm (s : State) : State :=
  { s with ports := { s.ports with strm := { s.ports.strm with st := .running, stall := 0 } } }

/-- A ready sink starts the frame of a HOLDING port as it does that of a RUNNING one. -/
theorem framePeriod_ready_of_holding {s : State} (hframe : s.ports.strm.frame = none)
    (h : s.ports.strm.st = .holding) : s.framePeriod .strm true = (runStrm s).framePeriod .strm true := by
  rw [framePeriod_strm hframe (.inr h), framePeriod_strm (s := runStrm s) hframe (.inl rfl)]
  rfl

theorem strmFollowsSink : Says.StrmFollowsSink := by
  intro s hframe
  refine ⟨fun hrun => ?first, fun hhold hlow => ?counts, fun hhold hhigh => ?stalled, fun hhold => ?ready⟩
  case first =>
    rw [exec_portFramePeriod, framePeriod_strm hframe (.inl hrun)]
    exact congrArg _ (stall_of_running hrun)
  case counts =>
    rw [exec_portFramePeriod, framePeriod_strm hframe (.inr hhold), ← holdStrm_of_holding hhold]
    exact congrArg _ (stall_below_limit hhold hlow)
  case stalled =>
    rw [exec_portFramePeriod, framePeriod_strm hframe (.inr hhold)]
    refine congrArg _ ((stall_at_limit hhold hhigh).trans ?_)
    rw [holdStrm_of_holding hhold]
    rfl
  case ready => exact congrArg Host.Outcome.next (framePeriod_ready_of_holding hframe hhold)

theorem noPeriodOutsideRunning : Says.NoPeriodOutsideRunning := by
  rintro s v ready (hflight | hidle)
  · rw [exec_portFramePeriod, framePeriod_of_inFlight hflight]
  · rw [exec_portFramePeriod, framePeriod_of_off_or_stopping hidle]

/-- Settles O39: between frames a period of STRM turns on the ready input, and the stall count on where it stands. -/
theorem streamPeriods : Obligations.StreamPeriods := ⟨strmFollowsSink, noPeriodOutsideRunning⟩

end Sys2Proof.Machine.PortLaws
end

section
/-! SUPPORT. What a frame shows: the source of the selection or of the show-cycle entry, and the fallback (R139, R142 to
R145). -/

namespace Sys2Proof.Machine.PortLaws

/-! ### Stills and the live page (R139) -/

theorem frameKind_eq (x : Slot) : x.frameKind = if x.kind = .page then .pageStill else .composedStill := by
  unfold Slot.frameKind
  cases x.kind <;> rfl

section
variable {s : State} {v : ViewId} {i : Fin 64} {k : Fin 24}

theorem stillSource_of_none (h : (s.page i).still = none) : s.stillSource i = none := by
  rw [State.stillSource, h, Option.map_none]

theorem stillSource_of_some (h : (s.page i).still = some k) :
    s.stillSource i = some (s.frameOfStill i k .none none) := by
  rw [State.stillSource, h, Option.map_some, frameKind_eq]
  rfl

theorem pageSource_of_none (h : (s.page i).still = none) : s.pageSource i = s.liveSource i := by
  rw [State.pageSource, stillSource_of_none h, Option.getD_none]

theorem pageSource_of_some (h : (s.page i).still = some k) : s.pageSource i = s.frameOfStill i k .none none := by
  rw [State.pageSource, stillSource_of_some h, Option.getD_some]

theorem frameOfStill_needsLive (i : Fin 64) (k : Fin 24) (fallback : FallbackUsed) (pos : Option Nat) :
    (s.frameOfStill i k fallback pos).needsLive = false := by
  unfold State.frameOfStill Source.needsLive
  split <;> rfl

/-- A record's source shows that record, by its still or as the live page. -/
theorem shows_pageSource (s : State) (i : Fin 64) : s.shows i (s.pageSource i) := by
  cases h : (s.page i).still with
  | none =>
    rw [pageSource_of_none h]
    exact ⟨rfl, rfl, rfl, fun _ => ⟨rfl, rfl⟩, fun k hk => absurd (h.symm.trans hk) nofun⟩
  | some j =>
    rw [pageSource_of_some h]
    refine ⟨rfl, rfl, rfl, fun hnone => absurd (h.symm.trans hnone) nofun, fun k hk => ?_⟩
    obtain rfl : j = k := Option.some.inj (h.symm.trans hk)
    exact ⟨rfl, fun hpage => if_pos hpage, fun hcomposed => if_neg (by simp [hcomposed])⟩

/-! ### Selections and show-cycle entries (R139, R145) -/

/-- A source shown by the show-cycle entry at a position. -/
def atEntry (p : Nat) (src : Source) : Source := { src with cyclePos := some p }

theorem entrySource_live (p : Nat) : s.entrySource p .live = atEntry p (s.liveSource 0) := rfl

theorem entrySource_page (p : Nat) (h : Handle) : s.entrySource p (.page h) = atEntry p (s.pageSource h.idx) := rfl

theorem entrySource_cyclePos (p : Nat) (sel : EntrySel) : (s.entrySource p sel).cyclePos = some p := by
  cases sel <;> rfl

theorem pageSource_cyclePos (s : State) (i : Fin 64) : (s.pageSource i).cyclePos = none := by
  cases h : (s.page i).still with
  | none => rw [pageSource_of_none h]; rfl
  | some k => rw [pageSource_of_some h]; rfl

theorem entry_at (c : ShowCycle) (p : Fin 12) : c.at p.val = c.entries[p] := by
  simp [ShowCycle.at]

theorem selectionSource_live (h : (s.view v).current.sel = .live) : s.selectionSource v = s.liveSource 0 := by
  rw [State.selectionSource, h]

theorem selectionSource_page {r : Handle} (h : (s.view v).current.sel = .page r) :
    s.selectionSource v = s.pageSource r.idx := by
  rw [State.selectionSource, h]

theorem selectionSource_blank (h : (s.view v).current.sel = .blank) : s.selectionSource v = Source.blank := by
  rw [State.selectionSource, h]

/-- CYCLE shows the entry at its position. -/
theorem selectionSource_cycle {p : Fin 12} (h : (s.view v).current.sel = .cycle) (hpos : (s.port v).cycle.pos = p.val) :
    s.selectionSource v = s.entrySource p.val (s.port v).cycle.entries[p].sel := by
  rw [State.selectionSource, h, ← entry_at, ← hpos]

/-! ### The source of a frame by its route (R142 to R144) -/

theorem withFallback_of_running (h : s.sin.st = .running) (src : Source) : s.withFallback v src = src :=
  if_neg fun hlost => hlost.2 h

theorem withFallback_of_not_needsLive {src : Source} (h : src.needsLive = false) : s.withFallback v src = src :=
  if_neg (by simp [h])

theorem withFallback_of_needsLive {src : Source} (h : src.needsLive = true) (hlost : s.sin.st ≠ .running) :
    s.withFallback v src = s.fallbackSource v src := if_pos ⟨h, hlost⟩

theorem resolve_normal (h : (s.view v).current.route = .normal) :
    s.resolve v = s.withFallback v (s.selectionSource v) := by
  rw [State.resolve, h]

theorem resolve_raw (h : (s.view v).current.route = .raw) :
    s.resolve v = s.withFallback v { Source.blank with kind := .raw } := by
  rw [State.resolve, h]

/-- A MIRROR frame follows PROJ's, and is blank where PROJ has none in RUNNING; Sensor Intake has no part in it. -/
theorem resolve_mirror (h : (s.view v).current.route = .mirror) :
    (∀ f : FlightFrame, s.ports.proj.st = .running → s.ports.proj.frame = some f →
        s.resolve v = { f.source with mirrored := true })
      ∧ ((s.ports.proj.st ≠ .running ∨ s.ports.proj.frame = none) → s.resolve v = Source.blank) := by
  rw [State.resolve, h]
  refine ⟨fun f hrun hframe => ?follows, fun hnone => ?blank⟩
  case follows =>
    have hmirrored : s.mirrored = some f := (if_pos hrun).trans hframe
    rw [hmirrored]
  case blank =>
    have hmirrored : s.mirrored = none := by
      unfold State.mirrored
      split
      · exact hnone.resolve_left (not_not_intro ‹_›)
      · rfl
    rw [hmirrored]

/-! ### With the sensor's picture (R139, R143, R145) -/

theorem resolve_of_running (hsin : s.sin.st = .running) (hroute : (s.view v).current.route = .normal) :
    s.resolve v = s.selectionSource v :=
  (resolve_normal hroute).trans (withFallback_of_running hsin _)

theorem sourceFollowsSelection : Says.SourceFollowsSelection := by
  intro s v hsin hlivePage
  have hlive : s.shows 0 (s.liveSource 0) := pageSource_of_none hlivePage ▸ shows_pageSource s 0
  refine ⟨fun hroute => ?normal, fun hroute => ?raw, resolve_mirror⟩
  case raw => exact (resolve_raw hroute).trans (withFallback_of_running hsin _)
  case normal =>
    rw [resolve_of_running hsin hroute]
    refine ⟨fun hsel => ?live, fun h hsel => ?page, selectionSource_blank, fun p hsel hpos => ?cycle⟩
    case live =>
      rw [selectionSource_live hsel]
      exact ⟨hlive, rfl⟩
    case page =>
      rw [selectionSource_page hsel]
      exact ⟨shows_pageSource s h.idx, pageSource_cyclePos s h.idx⟩
    case cycle =>
      rw [selectionSource_cycle hsel hpos]
      refine ⟨entrySource_cyclePos .., fun hentry => ?_, fun h hentry => ?_, fun hentry => ?_⟩ <;> rw [hentry]
      · exact hlive
      · exact shows_pageSource s h.idx
      · rfl

/-! ### The fallback (R144) -/

theorem fallbackSource_blank (h : (s.view v).fallback = .blank) (src : Source) :
    s.fallbackSource v src = ⟨.blank, none, none, .blank, src.cyclePos, false⟩ := by
  rw [State.fallbackSource, h]
  rfl

theorem fallbackSource_last_of_none (h : (s.view v).fallback = .last) (hgood : s.sin.lastGood = none) (src : Source) :
    s.fallbackSource v src = ⟨.blank, none, none, .last, src.cyclePos, false⟩ := by
  rw [State.fallbackSource, h, hgood]
  rfl

theorem fallbackSource_last_of_some (h : (s.view v).fallback = .last) (hgood : s.sin.lastGood.isSome)
    (src : Source) : s.fallbackSource v src = { src with fallback := .last } := by
  rw [State.fallbackSource, h]
  exact if_pos hgood

theorem fallbackSource_page_of_none {r : Handle} (h : (s.view v).fallback = .page r)
    (hstill : (s.page r.idx).still = none) (src : Source) :
    s.fallbackSource v src = ⟨.blank, none, none, .page, src.cyclePos, false⟩ := by
  simp only [State.fallbackSource, h, stillSource_of_none hstill]
  rfl

theorem fallbackSource_page_of_some {r : Handle} (h : (s.view v).fallback = .page r)
    (hstill : (s.page r.idx).still = some k) (src : Source) :
    s.fallbackSource v src = s.frameOfStill r.idx k .page src.cyclePos := by
  simp only [State.fallbackSource, h, stillSource_of_some hstill]
  rfl

/-! ### Frames that need the live picture (R139, R144) -/

/-- Before the fallback, the source of a frame that needs the live picture. -/
def liveFrame (s : State) (v : ViewId) (record : Option Handle) (pos : Option Nat) : Source :=
  ⟨(if (s.view v).current.route = .raw then .raw else .livePage), record, none, .none, pos, false⟩

theorem liveFrame_needsLive (s : State) (v : ViewId) (record : Option Handle) (pos : Option Nat) :
    (liveFrame s v record pos).needsLive = true := by
  unfold liveFrame Source.needsLive
  split <;> rfl

theorem liveFrame_of_normal (h : (s.view v).current.route = .normal) (record : Option Handle) (pos : Option Nat) :
    liveFrame s v record pos = ⟨.livePage, record, none, .none, pos, false⟩ := by
  simp [liveFrame, h]

/-- Whatever shows what LIVE or PAGE shows, in a form f, shows the live page through the record that is named. -/
theorem eq_of_livePageOf {live : Prop} {page : Handle → Prop} {r : Handle} {src : Source} {f : Source → Source}
    (h : s.livePageOf live page r) (hlive : live → src = f (s.liveSource 0))
    (hpage : ∀ h : Handle, page h → src = f (s.pageSource h.idx)) :
    src = f ⟨.livePage, some r, none, .none, none, false⟩ := by
  obtain ⟨hl, rfl⟩ | ⟨h, hp, hstill, rfl⟩ := h
  · exact hlive hl
  · rw [hpage h hp, pageSource_of_none hstill]
    rfl

/-- Under NORMAL such a frame is one of the selection, or of the entry at the cycle's position. -/
theorem selectionSource_of_wantsLive {record : Option Handle} {pos : Option Nat}
    (hroute : (s.view v).current.route = .normal) (h : s.wantsLive v record pos) :
    s.selectionSource v = liveFrame s v record pos := by
  rw [liveFrame_of_normal hroute]
  obtain ⟨hraw, -, -⟩ | ⟨-, r, rfl, ⟨rfl, hlive⟩ | ⟨p, hsel, hpos, rfl, hlive⟩⟩ := h
  · exact absurd (hroute.symm.trans hraw) nofun
  · exact eq_of_livePageOf (f := id) hlive selectionSource_live fun h => selectionSource_page
  · rw [selectionSource_cycle hsel hpos]
    exact eq_of_livePageOf (f := atEntry p.val) hlive (fun hentry => by rw [hentry, entrySource_live])
      fun h hentry => by rw [hentry, entrySource_page]

theorem resolve_of_wantsLive {record : Option Handle} {pos : Option Nat} (hlost : s.sin.st ≠ .running)
    (h : s.wantsLive v record pos) : s.resolve v = s.fallbackSource v (liveFrame s v record pos) := by
  refine Eq.trans ?_ (withFallback_of_needsLive (liveFrame_needsLive s v record pos) hlost)
  have hwants := h
  obtain ⟨hraw, rfl, rfl⟩ | ⟨hroute, -⟩ := h
  · rw [resolve_raw hraw, liveFrame, if_pos hraw]
    rfl
  · rw [resolve_normal hroute, selectionSource_of_wantsLive hroute hwants]

theorem fallbackReplacesLivePicture : Says.FallbackReplacesLivePicture := by
  intro s v record pos hlost hwants
  rw [resolve_of_wantsLive hlost hwants]
  exact ⟨fun hblank => fallbackSource_blank hblank _,
    fun hlast hgood => fallbackSource_last_of_none hlast hgood _,
    fun hlast hgood => fallbackSource_last_of_some hlast hgood _,
    fun f hpage => ⟨fun hstill => fallbackSource_page_of_none hpage hstill _,
      fun k hstill => fallbackSource_page_of_some hpage hstill _⟩⟩

/-! ### Frames that need none (R139, R142, R145) -/

/-- A frame under NORMAL whose source needs no live picture shows that source, whatever Sensor Intake's state. -/
theorem resolve_of_not_needsLive {src : Source} (hroute : (s.view v).current.route = .normal)
    (hsrc : s.selectionSource v = src) (h : src.needsLive = false) : s.resolve v = src := by
  rw [resolve_normal hroute, hsrc, withFallback_of_not_needsLive h]

theorem entrySource_page_of_some {h : Handle} (hstill : (s.page h.idx).still = some k) (p : Nat) :
    s.entrySource p (.page h) = s.frameOfStill h.idx k .none (some p) := by
  rw [entrySource_page, pageSource_of_some hstill]
  rfl

theorem framesWithoutLivePicture : Says.FramesWithoutLivePicture := by
  intro s v
  refine ⟨fun hroute => ⟨fun h k hsel hstill => ?still, fun hsel => ?blank, fun p hsel hpos => ?cycle⟩,
    resolve_mirror⟩
  case still =>
    have hsrc := (selectionSource_page hsel).trans (pageSource_of_some hstill)
    exact resolve_of_not_needsLive hroute hsrc (frameOfStill_needsLive ..)
  case blank => exact resolve_of_not_needsLive hroute (selectionSource_blank hsel) rfl
  case cycle =>
    have hsrc := selectionSource_cycle hsel hpos
    refine ⟨fun h k hentry hstill => ?_, fun hentry => ?_⟩ <;> rw [hentry] at hsrc
    · exact resolve_of_not_needsLive hroute (hsrc.trans (entrySource_page_of_some hstill _))
        (frameOfStill_needsLive ..)
    · exact resolve_of_not_needsLive hroute hsrc rfl

/-- Settles O40: with the sensor's picture a frame shows its selection; without it the live page and the sensor's own
picture give way to the fallback, and stills, BLANK and MIRROR stay. -/
theorem frameSources : Obligations.FrameSources :=
  ⟨sourceFollowsSelection, fallbackReplacesLivePicture, framesWithoutLivePicture⟩

end

end Sys2Proof.Machine.PortLaws
end

section
/-! SUPPORT. LESSON.COMMIT and LESSON.LOAD at their block, and the records and slots an accepted load reserves (R157
to R159, R162, R163). -/

namespace Sys2Proof.Machine.FlashLaws

open LessonLaws

/-! ### LESSON.COMMIT (R157 to R159) -/

theorem Area.clear_eq (a : Area) : a.clear = { a with cells := writeBytes a.cells 0 [0, 0, 0, 0] } :=
  a.put_eq 0 _ (by decide)

theorem Area.writeMarker_eq (a : Area) :
    a.writeMarker = { a with cells := writeBytes a.cells 0 [0x5A, 0xC3, 0x3C, 0xA5] } :=
  a.put_eq 0 _ (by decide)

theorem beginCommit_eq (s : State) (l : Fin 8) :
    s.beginCommit l =
      { s with
        lessons := s.lessons.set l { s.lesson l with st := .committing, progress := some 0, stored := false }
        areas := s.areas.set l { s.areas[l] with cells := writeBytes s.areas[l].cells 0 [0, 0, 0, 0] }
        descs := s.descs.set l ⟨false, false, none⟩
        op := some (.commit l .erase) } := by
  rw [← Area.clear_eq]
  rfl

theorem exec_lessonCommit (lvl : Level) (n : Nat) (s : State) :
    exec (.lessonCommit lvl n) s =
      (firstFailure
        [(badLesson n, .range), ((s.lesson (lessonIdx n)).st == .committing, .busy),
          ((s.lesson (lessonIdx n)).st != .opened, .state), (s.op.isSome, .busy),
          (!lvl.passes (s.lesson (lessonIdx n)).lock, .locked),
          ((s.lesson (lessonIdx n)).order.any fun i => (s.page i).fill.isSome, .busy)]).elim
        (answers (s.beginCommit (lessonIdx n)) .accepted .empty) fun c => answers s c .empty :=
  conclude_guarded s _ _

theorem lessonCommitStarts : Says.LessonCommitStarts := by
  refine ⟨fun s lvl l hst hop hlock hfills => ?_, fun a => ⟨?_, ?_⟩⟩
  · have hnofill : ((s.lesson l).order.any fun i => (s.page i).fill.isSome) = false :=
      List.any_eq_false.mpr fun i hi => by simp [hfills i hi]
    rw [exec_lessonCommit, ← beginCommit_eq]
    simp [firstFailure_cons, hst, hop, hlock, hnofill]
  · rw [← Area.clear_eq, a.clear_markerValid]
  · rw [← Area.writeMarker_eq, a.writeMarker_markerValid]

theorem lessonCommitRefusals : Says.LessonCommitRefusals := by
  intro s lvl
  refine ⟨fun n hn => ?number, fun l => ⟨fun hst => ?committing, fun hst => ?state, fun hst hop => ?busy,
    fun hst hop hlock => ?locked, fun hst hop hlock ⟨i, hi, hfill⟩ => ?fills⟩⟩
  all_goals rw [exec_lessonCommit]
  case number => simp [badLesson_of_outside (n := n) (by omega)]
  case committing => simp [firstFailure_cons, hst]
  case state => rcases hst with hst | hst <;> simp [firstFailure_cons, hst]
  case busy => simp [firstFailure_cons, hst, Option.isSome_iff_ne_none.mpr hop]
  case locked => simp [firstFailure_cons, hst, hop, hlock]
  case fills =>
    have hany : ((s.lesson l).order.any fun i => (s.page i).fill.isSome) = true :=
      List.any_eq_true.mpr ⟨i, hi, Option.isSome_iff_ne_none.mpr hfill⟩
    simp [firstFailure_cons, hst, hop, hlock, hany]

/-! ### FREE records and slots (R162, R163) -/

theorem freeRecordCount_eq (s : State) : s.freeRecordCount = s.freeRecords.length := by
  simp only [State.freeRecordCount, State.freeRecords, bne, Bool.beq_eq_decide_eq, decide_not]

theorem freeSlotCount_eq (s : State) : s.freeSlotCount = s.freeSlots.length := by
  simp only [State.freeSlotCount, State.freeSlots, Bool.beq_eq_decide_eq]

theorem lowestFree_eq (s : State) : s.lowestFree = s.freeRecords.head? := by
  simp only [State.lowestFree, State.freeRecords, List.head?_filter, bne, Bool.beq_eq_decide_eq, decide_not]

theorem lowestFreeSlot_eq (s : State) : s.lowestFreeSlot = s.freeSlots.head? := by
  simp only [State.lowestFreeSlot, State.freeSlots, List.head?_filter, Bool.beq_eq_decide_eq]

theorem nodup_freeRecords (s : State) : s.freeRecords.Nodup := (List.nodup_finRange 64).filter _

theorem nodup_freeSlots (s : State) : s.freeSlots.Nodup := (List.nodup_finRange 24).filter _

/-- What is left of a list's choice when its first element is no longer chosen. -/
theorem filter_eq_tail {α : Type} {l rest : List α} {a : α} {p q : α → Bool} (hl : l.Nodup)
    (h : l.filter p = a :: rest) (ha : q a = false) (hq : ∀ x, x ≠ a → q x = p x) : l.filter q = rest := by
  have hnotin : a ∉ rest := (List.nodup_cons.mp (h ▸ hl.filter p)).1
  have hqp : l.filter q = (l.filter p).filter q := by
    rw [List.filter_filter]
    refine List.filter_congr fun x _ => ?_
    by_cases hx : x = a
    · rw [hx, ha, Bool.false_and]
    · rw [hq x hx, Bool.and_self]
  have hrest : rest.filter q = rest := List.filter_eq_self.mpr fun x hx => by
    have hxl : x ∈ l.filter p := h ▸ List.mem_cons_of_mem a hx
    rw [hq x fun hxa => hnotin (hxa ▸ hx), (List.mem_filter.mp hxl).2]
  rw [hqp, h, List.filter_cons_of_neg (by simp [ha]), hrest]

/-- The record with the lowest index is no longer FREE, the others stand: the FREE records are the rest. -/
theorem freeRecords_tail {s t : State} {i : Fin 64} {rest : List (Fin 64)} (h : s.freeRecords = i :: rest)
    (hi : (t.page i).st ≠ .free) (hother : ∀ j, j ≠ i → t.page j = s.page j) : t.freeRecords = rest :=
  filter_eq_tail (List.nodup_finRange 64) h (by simp [hi]) fun j hj => by rw [hother j hj]

theorem freeSlots_tail {s t : State} {k : Fin 24} {rest : List (Fin 24)} (h : s.freeSlots = k :: rest)
    (hk : (t.slot k).st ≠ .free) (hother : ∀ j, j ≠ k → t.slot j = s.slot j) : t.freeSlots = rest :=
  filter_eq_tail (List.nodup_finRange 24) h (by simp [hk]) fun j hj => by rw [hother j hj]

/-! ### One page of a load reserved (R163) -/

/-- A record of generation `gen` as a load takes it, with its fill pending, if its page has a still. -/
def loadingRecord (gen : Byte) (fill : Option (Fin 24)) : Record :=
  { Record.blank (gen + 1) with st := .loading, fill := fill }

/-- A slot as a load takes it for a page whose directory entry is e and whose record's handle is h. -/
def loadingSlot (e : DirEntry) (h : Handle) : Slot where
  st := .filling
  blocks := e.blocks
  kind := e.kind
  light := e.light
  holds := 0
  record := some h
  source := some .load
  phase := none
  capture := none
  picture := none

theorem reservePage_none {s : State} {i : Fin 64} (hi : s.lowestFree = some i) :
    s.reservePage none = s.modPage i fun r => loadingRecord r.gen none := by
  simp only [State.reservePage, hi]
  rfl

theorem reservePage_some {s : State} {i : Fin 64} {j : Fin 24} (e : DirEntry) (hi : s.lowestFree = some i)
    (hj : s.lowestFreeSlot = some j) :
    s.reservePage (some e) =
      { (s.modSlot j fun _ => loadingSlot e ⟨i, (s.page i).gen + 1⟩).modPage i fun r =>
          loadingRecord r.gen (some j) with
        freeBlocks := s.freeBlocks - e.blocks } := by
  have hj' : (s.allocate i .loading false).lowestFreeSlot = some j := hj
  have hgen : (s.allocate i .loading false).handleOf i = ⟨i, (s.page i).gen + 1⟩ := by
    simp [State.handleOf, State.allocate, Record.blank]
  simp only [State.reservePage, hi, hj', State.startFill, hgen]
  simp [State.allocate, State.modPage, State.modSlot, State.page, loadingSlot, loadingRecord]
  rfl

/-- What the reservation of one page does: its record i is the first FREE one, `is` the others, and its slot, if it has
a still, the first FREE one. -/
structure PageReserved (s : State) (i : Fin 64) (is : List (Fin 64)) (entry : Option DirEntry) (u : State) : Prop where
  freeRecords : u.freeRecords = is
  freeSlots : u.freeSlots = s.freeSlots.drop (if entry.isSome then 1 else 0)
  page : u.page i = loadingRecord (s.page i).gen (entry.bind fun _ => s.freeSlots.head?)
  otherPages : ∀ n, n ≠ i → u.page n = s.page n
  slot : ∀ e j, entry = some e → s.freeSlots.head? = some j → u.slot j = loadingSlot e ⟨i, (s.page i).gen + 1⟩
  otherSlots : ∀ m, m ∉ s.freeSlots.take (if entry.isSome then 1 else 0) → u.slot m = s.slot m
  freeBlocks : u.freeBlocks = s.freeBlocks - dirBlocks entry
  frame : u = { s with records := u.records, slots := u.slots, freeBlocks := u.freeBlocks }

section
variable {s t : State} {i : Fin 64} {is : List (Fin 64)} (hi : s.freeRecords = i :: is)
include hi

theorem reservePage_none_reserved : PageReserved s i is none (s.reservePage none) := by
  rw [reservePage_none (i := i) (by rw [lowestFree_eq, hi]; rfl)]
  have hother : ∀ n, n ≠ i → (s.modPage i fun r => loadingRecord r.gen none).page n = s.page n := fun n hn =>
    s.modPage_page_ne _ (Ne.symm hn)
  exact
    { freeRecords := freeRecords_tail hi (by simp [loadingRecord]) hother
      freeSlots := rfl
      page := s.modPage_page_same i _
      otherPages := hother
      slot := nofun
      otherSlots := fun _ _ => rfl
      freeBlocks := rfl
      frame := rfl }

theorem reservePage_some_reserved (e : DirEntry) (hslot : 0 < s.freeSlots.length) :
    PageReserved s i is (some e) (s.reservePage (some e)) := by
  obtain ⟨j, js, hj⟩ := List.exists_cons_of_length_pos hslot
  have hu := reservePage_some (i := i) (j := j) e (by rw [lowestFree_eq, hi]; rfl) (by rw [lowestFreeSlot_eq, hj]; rfl)
  generalize s.reservePage (some e) = u at hu ⊢
  have hpage : u.page i = loadingRecord (s.page i).gen (some j) := by
    subst hu; exact State.modPage_page_same (s.modSlot j _) i fun r => loadingRecord r.gen (some j)
  have hpages : ∀ n, n ≠ i → u.page n = s.page n := fun n hn => by
    subst hu; exact State.modPage_page_ne (s.modSlot j _) (fun r => loadingRecord r.gen (some j)) (Ne.symm hn)
  have hslot : u.slot j = loadingSlot e ⟨i, (s.page i).gen + 1⟩ := by
    subst hu; exact s.modSlot_slot_same j fun _ => loadingSlot e ⟨i, (s.page i).gen + 1⟩
  have hslots : ∀ m, m ≠ j → u.slot m = s.slot m := fun m hm => by
    subst hu; exact s.modSlot_slot_ne (fun _ => loadingSlot e ⟨i, (s.page i).gen + 1⟩) (Ne.symm hm)
  exact
    { freeRecords := freeRecords_tail hi (by simp [hpage, loadingRecord]) hpages
      freeSlots := by rw [freeSlots_tail hj (by simp [hslot, loadingSlot]) hslots, hj]; rfl
      page := by rw [hpage, hj]; rfl
      otherPages := hpages
      slot := fun e' j' he hj' => by
        obtain rfl : e = e' := Option.some.inj he
        obtain rfl : j = j' := by simpa [hj] using hj'
        exact hslot
      otherSlots := fun m hm => hslots m (by simpa [hj] using hm)
      freeBlocks := by rw [hu]; rfl
      frame := by rw [hu]; rfl }

theorem reservePage_reserved {entry : Option DirEntry}
    (hslot : (if entry.isSome then 1 else 0) ≤ s.freeSlots.length) :
    PageReserved s i is entry (s.reservePage entry) := by
  cases entry with
  | none => exact reservePage_none_reserved hi
  | some e => exact reservePage_some_reserved hi e hslot

end

/-! ### The pages of a load reserved one after the other (R163) -/

/-- What the reservation of pages with these directory entries leaves of the state. -/
structure ReservedTo (s : State) (es : List (Option DirEntry)) (t : State) : Prop where
  otherPages : ∀ i, i ∉ s.freeRecords.take es.length → t.page i = s.page i
  otherSlots : ∀ j, j ∉ s.freeSlots.take (es.countP Option.isSome) → t.slot j = s.slot j
  page : ∀ (k : Nat) (i : Fin 64) (entry : Option DirEntry), s.freeRecords[k]? = some i → es[k]? = some entry →
    t.page i = loadingRecord (s.page i).gen (entry.bind fun _ => s.freeSlots[stillsBefore es k]?)
  slot : ∀ (k : Nat) (i : Fin 64) (e : DirEntry) (j : Fin 24), s.freeRecords[k]? = some i →
    es[k]? = some (some e) → s.freeSlots[stillsBefore es k]? = some j →
    t.slot j = loadingSlot e ⟨i, (s.page i).gen + 1⟩
  freeBlocks : t.freeBlocks = s.freeBlocks - (es.map dirBlocks).sum
  frame : t = { s with records := t.records, slots := t.slots, freeBlocks := t.freeBlocks }

theorem ReservedTo.nil (s : State) : ReservedTo s [] s where
  otherPages _ _ := rfl
  otherSlots _ _ := rfl
  page _ _ _ _ h := nomatch h
  slot _ _ _ _ _ h := nomatch h
  freeBlocks := rfl
  frame := rfl

theorem stillsBefore_cons_succ (entry : Option DirEntry) (es : List (Option DirEntry)) (k : Nat) :
    stillsBefore (entry :: es) (k + 1) = (if entry.isSome then 1 else 0) + stillsBefore es k := by
  rw [stillsBefore, List.take_succ_cons, List.countP_cons, Nat.add_comm]
  rfl

section
variable {s u t : State} {i : Fin 64} {is : List (Fin 64)} {entry : Option DirEntry} {es : List (Option DirEntry)}

/-- The first page's reservation, then those of the others. -/
theorem ReservedTo.cons (hi : s.freeRecords = i :: is) (hu : PageReserved s i is entry u) (ht : ReservedTo u es t) :
    ReservedTo s (entry :: es) t := by
  have hnotin : i ∉ is := (List.nodup_cons.mp (hi ▸ nodup_freeRecords s)).1
  have hne : ∀ {k : Nat} {n : Fin 64}, is[k]? = some n → n ≠ i := fun hn he =>
    hnotin (he ▸ List.mem_of_getElem? hn)
  obtain ⟨hotherPages, hotherSlots, hpage, hslot, hblocks, hframe⟩ := ht
  rw [hu.freeRecords] at hotherPages hpage hslot
  rw [hu.freeSlots] at hotherSlots hpage hslot
  constructor
  case otherPages =>
    intro n hn
    rw [hi, List.length_cons, List.take_succ_cons, List.mem_cons, not_or] at hn
    rw [hotherPages n hn.2, hu.otherPages n hn.1]
  case otherSlots =>
    intro m hm
    rw [List.countP_cons, Nat.add_comm, List.take_add, List.mem_append, not_or] at hm
    rw [hotherSlots m hm.2, hu.otherSlots m hm.1]
  case page =>
    intro k n e hn hk
    rw [hi] at hn
    cases k with
    | zero =>
      obtain rfl : i = n := by simpa using hn
      obtain rfl : entry = e := by simpa using hk
      rw [hotherPages i fun h => hnotin (List.mem_of_mem_take h), hu.page, List.head?_eq_getElem?]
      rfl
    | succ k =>
      rw [List.getElem?_cons_succ] at hn hk
      rw [hpage k n e hn hk, hu.otherPages n (hne hn), List.getElem?_drop, ← stillsBefore_cons_succ]
  case slot =>
    intro k n e m hn hk hm
    rw [hi] at hn
    cases k with
    | zero =>
      obtain rfl : i = n := by simpa using hn
      obtain rfl : entry = some e := by simpa using hk
      have hhead : s.freeSlots.head? = some m := by rw [List.head?_eq_getElem?]; exact hm
      obtain ⟨ms, hms⟩ := List.head?_eq_some_iff.mp hhead
      have hnotin : m ∉ ms := (List.nodup_cons.mp (hms ▸ nodup_freeSlots s)).1
      rw [hotherSlots m fun h => hnotin (by simpa [hms] using List.mem_of_mem_take h), hu.slot e m rfl hhead]
    | succ k =>
      rw [List.getElem?_cons_succ] at hn hk
      rw [stillsBefore_cons_succ, ← List.getElem?_drop] at hm
      rw [hslot k n e m hn hk hm, hu.otherPages n (hne hn)]
  case freeBlocks => rw [hblocks, hu.freeBlocks, List.map_cons, List.sum_cons, Nat.sub_add_eq]
  case frame => rw [hframe, hu.frame]

end

theorem foldl_reservePage_reservedTo {es : List (Option DirEntry)} {s : State}
    (hpages : es.length ≤ s.freeRecords.length) (hstills : es.countP Option.isSome ≤ s.freeSlots.length) :
    ReservedTo s es (es.foldl State.reservePage s) := by
  induction es generalizing s with
  | nil => exact .nil s
  | cons entry rest ih =>
    obtain ⟨i, is, hi⟩ : ∃ i is, s.freeRecords = i :: is :=
      List.exists_cons_of_length_pos (Nat.lt_of_lt_of_le (Nat.succ_pos _) hpages)
    rw [List.countP_cons] at hstills
    rw [hi, List.length_cons, List.length_cons] at hpages
    have hu := reservePage_reserved hi (entry := entry) (by omega)
    refine .cons hi hu (ih ?_ ?_)
    · rw [hu.freeRecords]; omega
    · rw [hu.freeSlots, List.length_drop]; omega

/-! ### LESSON.LOAD (R162, R163) -/

theorem exec_lessonLoad (lvl : Level) (n : Nat) (s : State) :
    exec (.lessonLoad lvl n) s = conclude (lessonLoadBlock lvl n s) := rfl

/-- The checks of a load before it reads the descriptor's header (R162). -/
theorem exec_lessonLoad_refused {lvl : Level} {n : Nat} {s : State} {c : ResultCode}
    (h : firstFailure [(badLesson n, .range),
      ((s.lesson (lessonIdx n)).st != .absent || !(s.lesson (lessonIdx n)).stored, .state), (s.op.isSome, .busy),
      (!s.descs[lessonIdx n].sound, .state)] = some c) :
    exec (.lessonLoad lvl n) s = answers s c .empty := by
  simp only [exec_lessonLoad, lessonLoadBlock, h, conclude_refuse]

/-- The checks of a load against a sound header (R162). -/
theorem exec_lessonLoad_sound {lvl : Level} {l : Fin 8} {s : State} {h : HeaderVals} (hst : (s.lesson l).st = .absent)
    (hstored : (s.lesson l).stored = true) (hop : s.op = none) (hdesc : s.descs[l] = ⟨true, true, some h⟩) :
    exec (.lessonLoad lvl (l.val + 1)) s =
      (firstFailure
        [(!lvl.passes h.lock, .locked), (decide (s.freeRecords.length < h.pages), .full),
          (decide (s.freeSlots.length < h.stills) || decide (s.freeBlocks < h.blocks), .noStill)]).elim
        (answers (s.beginLoad l h) .accepted .empty) fun c => answers s c .empty := by
  have hpass : firstFailure [(badLesson (l.val + 1), .range),
      ((s.lesson l).st != .absent || !(s.lesson l).stored, .state), (s.op.isSome, .busy), (!true, .state)] = none := by
    simp [firstFailure_cons, hst, hstored, hop]
  simp only [exec_lessonLoad, lessonLoadBlock, lessonIdx_succ, hdesc, hpass, conclude_guarded, freeRecordCount_eq,
    freeSlotCount_eq]
  rfl

/-- A directory within R155 is that of its pages and then empty. -/
theorem HeaderVals.sums_dir {h : HeaderVals} (hsums : h.sums) :
    h.dir = h.dir.take h.pages ++ List.replicate (32 - h.pages) none := by
  obtain ⟨-, hlen, hnone, -, -⟩ := hsums
  have hdrop : h.dir.drop h.pages = List.replicate (32 - h.pages) none := by
    refine List.eq_replicate_iff.mpr ⟨by rw [List.length_drop, hlen], fun e he => ?_⟩
    obtain ⟨k, hk, rfl⟩ := List.mem_iff_getElem.mp he
    have h := hnone (h.pages + k) (Nat.le_add_right _ _)
    rw [List.length_drop] at hk
    rwa [List.getD_eq_getElem _ _ (by omega), ← List.getElem_drop] at h
  rw [← hdrop, List.take_append_drop]

theorem HeaderVals.sums_pages {h : HeaderVals} (hsums : h.sums) :
    (h.dir.take h.pages).length = h.pages ∧ (h.dir.take h.pages).countP Option.isSome = h.stills
      ∧ ((h.dir.take h.pages).map dirBlocks).sum = h.blocks := by
  obtain ⟨hpages, hlen, -, hstills, hblocks⟩ := id hsums
  have hdir := HeaderVals.sums_dir hsums
  refine ⟨by rw [List.length_take]; omega, ?_, ?_⟩
  · rw [hstills, hdir, List.countP_append, ← hdir]
    simp [List.countP_replicate]
  · rw [hblocks, hdir, List.map_append, List.sum_append, ← hdir]
    simp [dirBlocks]

theorem lessonLoadReserves : Says.LessonLoadReserves := by
  intro s lvl l h hst hstored hop hdesc hsums hlock hpages hstills hblocks
  obtain ⟨hlength, hcount, hsum⟩ := HeaderVals.sums_pages hsums
  have hbegin : exec (.lessonLoad lvl (l.val + 1)) s = answers (s.beginLoad l h) .accepted .empty := by
    rw [exec_lessonLoad_sound hst hstored hop hdesc]
    simp [firstFailure_cons, hlock, Nat.not_lt.mpr hpages, Nat.not_lt.mpr hstills, Nat.not_lt.mpr hblocks]
  obtain ⟨u, hu, hload⟩ : ∃ u,
      ReservedTo (s.modLesson l fun x => { x with st := .loading, label := h.label, lock := h.lock })
        (h.dir.take h.pages) u ∧ s.beginLoad l h = { u with op := some (.load l .header) } :=
    ⟨_, foldl_reservePage_reservedTo (hlength.symm ▸ hpages) (hcount.symm ▸ hstills), rfl⟩
  obtain ⟨hotherPages, hotherSlots, hpage, hslot, hfree, hframe⟩ := hu
  rw [hsum] at hfree
  rw [hlength] at hotherPages
  rw [hcount] at hotherSlots
  rw [hload] at hbegin
  refine ⟨_, hbegin, ?frame, hotherPages, hotherSlots, fun k i hk hi => ?_⟩
  case frame =>
    rw [hfree] at hframe
    exact congrArg (fun v : State => { v with op := some (.load l .header) }) hframe
  have htake : (h.dir.take h.pages)[k]? = h.dir[k]? := List.getElem?_take_of_lt hk
  have hbefore : stillsBefore (h.dir.take h.pages) k = stillsBefore h.dir k := by
    simp only [stillsBefore, List.take_take, Nat.min_eq_left hk.le]
  refine ⟨fun hnone => hpage k i none hi (htake.trans hnone), fun e j he hj => ⟨?_, ?_⟩⟩
  · refine (hpage k i (some e) hi (htake.trans he)).trans ?_
    rw [hbefore, Option.bind_some]
    exact congrArg (loadingRecord _) hj
  · exact hslot k i e j hi (htake.trans he) (by rw [hbefore]; exact hj)

theorem lessonLoadRefusals : Says.LessonLoadRefusals := by
  intro s lvl
  refine ⟨fun n hn => ?number, fun l => ⟨fun hst => ?state, fun hst hstored => ⟨fun hop => ?busy,
    fun hop hsound => ?unsound, fun h hop hdesc =>
      ⟨fun hlock => ?locked, fun hlock hpages => ?full, fun hlock hpages hstore => ?noStill⟩⟩⟩⟩
  case number => exact exec_lessonLoad_refused (by simp [badLesson_of_outside (n := n) (by omega)])
  case state =>
    apply exec_lessonLoad_refused
    rcases hst with hst | hst <;> simp [firstFailure_cons, hst]
  case busy =>
    exact exec_lessonLoad_refused (by simp [firstFailure_cons, hst, hstored, Option.isSome_iff_ne_none.mpr hop])
  case unsound =>
    rw [Fin.getElem_fin] at hsound
    exact exec_lessonLoad_refused (by simp [firstFailure_cons, hst, hstored, hop, hsound])
  all_goals rw [exec_lessonLoad_sound hst hstored hop hdesc]
  case locked => simp [firstFailure_cons, hlock]
  case full => simp [firstFailure_cons, hlock, hpages]
  case noStill => simp [firstFailure_cons, hlock, Nat.not_lt.mpr hpages, hstore]

/-- Settles O43, by the checks of each command in order, and by the pages of a load reserved one after the other. -/
theorem flashOperationsStart : Obligations.FlashOperationsStart :=
  ⟨lessonCommitStarts, lessonCommitRefusals, lessonLoadReserves, lessonLoadRefusals⟩

end Sys2Proof.Machine.FlashLaws
end

section
/-! SUPPORT. The end of a load without completing, of a commit as a failed one, and LESSON.ABANDON and LESSON.ERASE
(R161, R165 to R167). -/

namespace Sys2Proof.Machine.FlashLaws

open LessonLaws StillLaws

/-! ### An act on LOADING records, one after the other (R164, R165) -/

/-- An act on a record that rewrites the record by f and the slot of its fill pending by g, and returns as many blocks
as n says of that slot. -/
structure LoadAct (act : State → Fin 64 → State) (f : Record → Record) (g : Slot → Slot) (n : Slot → Nat) : Prop where
  page : ∀ s i j, (act s i).page j = if i = j then f (s.page i) else s.page j
  slot : ∀ s i k, (act s i).slot k = if (s.page i).fill = some k then g (s.slot k) else s.slot k
  freeBlocks : ∀ s i, (act s i).freeBlocks = s.freeBlocks + (s.page i).fill.elim 0 fun k => n (s.slot k)
  frame : ∀ s i, act s i =
    { s with records := (act s i).records, slots := (act s i).slots, freeBlocks := (act s i).freeBlocks }

/-- Records no two of which have the same fill pending (R50). -/
structure FillsApart (s : State) (is : List (Fin 64)) : Prop where
  nodup : is.Nodup
  apart : ∀ i ∈ is, ∀ j ∈ is, (s.page i).fill ≠ none → (s.page i).fill = (s.page j).fill → i = j

/-- What such an act on each of several records leaves of the state. -/
structure ActedTo (f : Record → Record) (g : Slot → Slot) (n : Slot → Nat) (s : State) (is : List (Fin 64))
    (t : State) : Prop where
  page : ∀ i, t.page i = if i ∈ is then f (s.page i) else s.page i
  slot : ∀ k, t.slot k = if ∃ i ∈ is, (s.page i).fill = some k then g (s.slot k) else s.slot k
  freeBlocks : t.freeBlocks = s.freeBlocks + (is.map fun i => (s.page i).fill.elim 0 fun k => n (s.slot k)).sum
  frame : t = { s with records := t.records, slots := t.slots, freeBlocks := t.freeBlocks }

theorem ActedTo.nil (f : Record → Record) (g : Slot → Slot) (n : Slot → Nat) (s : State) : ActedTo f g n s [] s where
  page _ := by simp
  slot _ := by simp
  freeBlocks := rfl
  frame := rfl

section
variable {act : State → Fin 64 → State} {f : Record → Record} {g : Slot → Slot} {n : Slot → Nat}
  (hact : LoadAct act f g n) {s t : State} {i : Fin 64} {is : List (Fin 64)} (h : FillsApart s (i :: is))
include hact h

theorem FillsApart.page_tail {j : Fin 64} (hj : j ∈ is) : (act s i).page j = s.page j := by
  rw [hact.page, if_neg]
  rintro rfl
  exact (List.nodup_cons.mp h.nodup).1 hj

theorem FillsApart.slot_tail {j : Fin 64} {k : Fin 24} (hj : j ∈ is) (hk : (s.page j).fill = some k) :
    (act s i).slot k = s.slot k := by
  rw [hact.slot, if_neg]
  intro hik
  obtain rfl : i = j := h.apart i List.mem_cons_self j (List.mem_cons_of_mem i hj) (by simp [hik]) (hik.trans hk.symm)
  exact (List.nodup_cons.mp h.nodup).1 hj

theorem FillsApart.tail : FillsApart (act s i) is where
  nodup := (List.nodup_cons.mp h.nodup).2
  apart m hm n hn := by
    rw [h.page_tail hact hm, h.page_tail hact hn]
    exact h.apart m (List.mem_cons_of_mem i hm) n (List.mem_cons_of_mem i hn)

/-- The act on the first record, then on the others. -/
theorem ActedTo.cons (ht : ActedTo f g n (act s i) is t) : ActedTo f g n s (i :: is) t where
  page j := by
    rw [ht.page]
    by_cases hj : j ∈ is
    · rw [if_pos hj, if_pos (List.mem_cons_of_mem i hj), h.page_tail hact hj]
    · rw [if_neg hj, hact.page]
      by_cases hij : i = j
      · subst hij
        rw [if_pos rfl, if_pos List.mem_cons_self]
      · rw [if_neg hij, if_neg (by simp [hj, Ne.symm hij])]
  slot k := by
    have hrest : (∃ j ∈ is, ((act s i).page j).fill = some k) ↔ ∃ j ∈ is, (s.page j).fill = some k :=
      exists_congr fun j => and_congr_right fun hj => by rw [h.page_tail hact hj]
    simp only [ht.slot, hrest, List.exists_mem_cons_iff]
    by_cases hk : ∃ j ∈ is, (s.page j).fill = some k
    · obtain ⟨j, hj, hjk⟩ := hk
      rw [if_pos ⟨j, hj, hjk⟩, if_pos (.inr ⟨j, hj, hjk⟩), h.slot_tail hact hj hjk]
    · rw [if_neg hk, hact.slot]
      simp only [hk, or_false]
  freeBlocks := by
    have hrest : (is.map fun j => ((act s i).page j).fill.elim 0 fun k => n ((act s i).slot k))
        = is.map fun j => (s.page j).fill.elim 0 fun k => n (s.slot k) :=
      List.map_congr_left fun j hj => by
        rw [h.page_tail hact hj]
        cases hk : (s.page j).fill with
        | none => rfl
        | some k => exact congrArg n (h.slot_tail hact hj hk)
    rw [ht.freeBlocks, hrest, hact.freeBlocks, List.map_cons, List.sum_cons, Nat.add_assoc]
  frame := by rw [ht.frame, hact.frame]

end

theorem foldl_actedTo {act : State → Fin 64 → State} {f : Record → Record} {g : Slot → Slot} {n : Slot → Nat}
    (hact : LoadAct act f g n) {is : List (Fin 64)} {s : State} (h : FillsApart s is) :
    ActedTo f g n s is (is.foldl act s) := by
  induction is generalizing s with
  | nil => exact .nil f g n s
  | cons i rest ih => exact .cons hact h (ih (h.tail hact))

/-- A LOADING record dropped: it is FREE, and so is the slot of its fill pending (R165). -/
theorem dropLoading_loadAct :
    LoadAct State.dropLoading (fun r => Record.blank r.gen) Slot.freed fun x => x.blocks where
  page s i j := by
    unfold State.dropLoading
    cases (s.page i).fill <;> exact State.modPage_page _ i j fun r => Record.blank r.gen
  slot s i k := by
    unfold State.dropLoading
    cases (s.page i).fill with
    | none => rfl
    | some m =>
      refine (freeSlot_slot s m k).trans ?_
      by_cases h : m = k <;> simp [h]
  freeBlocks s i := by
    unfold State.dropLoading
    cases (s.page i).fill <;> rfl
  frame s i := by
    unfold State.dropLoading
    cases (s.page i).fill <;> rfl

/-! ### The LOADING records of a load that ends (R163, R165) -/

theorem loadingRecords_eq (s : State) : s.loadingRecords = s.loadings := by
  simp only [State.loadingRecords, State.loadings, Bool.beq_eq_decide_eq]

@[simp] theorem mem_loadings {s : State} {i : Fin 64} : i ∈ s.loadings ↔ (s.page i).st = .loading := by
  simp [State.loadings]

theorem loadFills_iff {s : State} {k : Fin 24} :
    s.loadFills k = true ↔ ∃ i ∈ s.loadings, (s.page i).fill = some k := by
  simp [State.loadFills]

theorem fillsApart_loadings {s : State} (h : s.fillsApart) : FillsApart s s.loadings where
  nodup := (List.nodup_finRange 64).filter _
  apart i hi j hj := h i j hi hj

/-- An act on every LOADING record, by the state's tables. -/
theorem foldl_loadings {act : State → Fin 64 → State} {f : Record → Record} {g : Slot → Slot} {n : Slot → Nat}
    (hact : LoadAct act f g n) {s : State} (h : s.fillsApart) :
    s.loadings.foldl act s =
      { s with
        records := Vector.ofFn fun i => if (s.page i).st = .loading then f (s.page i) else s.page i
        slots := Vector.ofFn fun k => if s.loadFills k then g (s.slot k) else s.slot k
        freeBlocks := s.freeBlocks + (s.loadings.map fun i => (s.page i).fill.elim 0 fun k => n (s.slot k)).sum } := by
  have ht := foldl_actedTo hact (fillsApart_loadings h)
  generalize s.loadings.foldl act s = u at ht ⊢
  have hrecords : u.records = Vector.ofFn fun i => if (s.page i).st = .loading then f (s.page i) else s.page i :=
    records_eq fun i => by simp [ht.page]
  have hslots : u.slots = Vector.ofFn fun k => if s.loadFills k then g (s.slot k) else s.slot k :=
    slots_eq_ofFn fun k => (ht.slot k).trans (if_congr loadFills_iff.symm rfl rfl)
  rw [← hrecords, ← hslots, ← ht.freeBlocks]
  exact ht.frame

theorem blocksOf_eq_elim (s : State) (o : Option (Fin 24)) : s.blocksOf o = o.elim 0 fun k => (s.slot k).blocks := by
  cases o <;> rfl

theorem endLoad_eq {s : State} (h : s.fillsApart) (l : Fin 8) : s.endLoad l = s.loadDropped l := by
  simp only [State.endLoad, loadingRecords_eq, foldl_loadings dropLoading_loadAct h, State.loadDropped,
    State.makeAbsent, State.modLesson, State.lesson, Lesson.absent, blocksOf_eq_elim]

theorem failLoad_eq {s : State} (h : s.fillsApart) (l : Fin 8) : s.failLoad l = s.loadFailed l := by
  rw [State.failLoad, endLoad_eq h]
  rfl

theorem failCommit_eq (s : State) (l : Fin 8) : s.failCommit l = s.commitFailed l := rfl

/-! ### LESSON.ABANDON (R166) -/

theorem exec_lessonAbandon (lvl : Level) (n : Nat) (s : State) :
    exec (.lessonAbandon lvl n) s =
      (firstFailure
        [(badLesson n, .range),
          ((s.lesson (lessonIdx n)).st != .committing && (s.lesson (lessonIdx n)).st != .loading, .state),
          (!lvl.passes (s.lesson (lessonIdx n)).lock, .locked)]).elim
        (answers
          (if (s.lesson (lessonIdx n)).st = .committing then s.failCommit (lessonIdx n) else s.endLoad (lessonIdx n))
          .ok .empty) fun c => answers s c .empty :=
  conclude_guarded s _ _

theorem lessonAbandonStops : Says.LessonAbandonStops := by
  intro s lvl
  refine ⟨fun n hn => ?number, fun l => ⟨fun hst => ?state, fun hst hlock => ?locked, fun hlock =>
    ⟨fun hst => ?commit, fun hst happart => ?load⟩⟩⟩
  all_goals rw [exec_lessonAbandon]
  case number => simp [badLesson_of_outside (n := n) (by omega)]
  case state => rcases hst with hst | hst <;> simp [firstFailure_cons, hst]
  case locked => rcases hst with hst | hst <;> simp [firstFailure_cons, hst, hlock]
  case commit => simp [firstFailure_cons, hst, hlock, failCommit_eq]
  case load => simp [firstFailure_cons, hst, hlock, endLoad_eq happart]

/-! ### LESSON.ERASE (R167) -/

theorem exec_lessonErase (lvl : Level) (n : Nat) (s : State) :
    exec (.lessonErase lvl n) s =
      (firstFailure
        [(badLesson n, .range),
          ((s.lesson (lessonIdx n)).st == .loading || (s.lesson (lessonIdx n)).st == .committing, .busy),
          (s.op.isSome, .busy), (!lvl.passes (s.eraseLock (lessonIdx n)), .locked)]).elim
        (answers (s.beginErase (lessonIdx n)) .ok .empty) fun c => answers s c .empty :=
  conclude_guarded s _ _

/-- An erase passes the lock of the lesson and that of a sound header (R167). -/
theorem eraseLock_le_iff (s : State) (l : Fin 8) (lvl : Level) :
    (s.eraseLock l).rank ≤ lvl.rank ↔
      (s.lesson l).lock.rank ≤ lvl.rank
        ∧ ∀ h : HeaderVals, s.descs[l].header = some h → s.descs[l].sound = true → h.lock.rank ≤ lvl.rank := by
  unfold State.eraseLock
  cases s.descs[l].header with
  | none => simp
  | some h => cases s.descs[l].sound <;> simp [rank_max_le_iff]

theorem beginErase_eq (s : State) (l : Fin 8) :
    s.beginErase l =
      { s with
        lessons := s.lessons.set l
          { s.lesson l with
            stored := false
            lost := false
            dirty := (s.lesson l).dirty || decide ((s.lesson l).st = .opened) }
        areas := s.areas.set l { s.areas[l] with cells := writeBytes s.areas[l].cells 0 [0, 0, 0, 0] }
        descs := s.descs.set l ⟨false, false, none⟩
        op := some (.clear l) } := by
  rw [← Area.clear_eq, ← Bool.beq_eq_decide_eq]
  rfl

theorem lessonEraseClears : Says.LessonEraseClears := by
  intro s lvl
  refine ⟨fun n hn => ?number, fun l => ⟨fun hst => ?busy, fun hst => ⟨fun hop => ?operation,
    fun hop hlock => ?locked, fun h hop hdesc hlock => ?headerLocked, fun hop hlock hheader => ?accepted⟩⟩⟩
  all_goals rw [exec_lessonErase]
  case number => simp [badLesson_of_outside (n := n) (by omega)]
  case busy => rcases hst with hst | hst <;> simp [firstFailure_cons, hst]
  all_goals
    have hidle : ((s.lesson l).st == .loading || (s.lesson l).st == .committing) = false := by
      rcases hst with hst | hst <;> simp [hst]
  case operation => simp [firstFailure_cons, hidle, Option.isSome_iff_ne_none.mpr hop]
  case locked =>
    have hneed : lvl.rank < (s.eraseLock l).rank :=
      Nat.lt_of_not_le fun hle => Nat.not_lt.mpr ((eraseLock_le_iff s l lvl).mp hle).1 hlock
    simp [firstFailure_cons, hidle, hop, hneed]
  case headerLocked =>
    have hneed : lvl.rank < (s.eraseLock l).rank := Nat.lt_of_not_le fun hle =>
      Nat.not_lt.mpr (((eraseLock_le_iff s l lvl).mp hle).2 h (by rw [hdesc]) (by rw [hdesc])) hlock
    simp [firstFailure_cons, hidle, hop, hneed]
  case accepted =>
    have hpass := (eraseLock_le_iff s l lvl).mpr ⟨hlock, hheader⟩
    rw [← beginErase_eq]
    simp [firstFailure_cons, hidle, hop, hpass]

/-- Settles O44, by the LOADING records dropped one after the other, each leaving the fills of the others, and by the
checks of each command in order. -/
theorem abandonAndErase : Obligations.AbandonAndErase := ⟨lessonAbandonStops, lessonEraseClears⟩

end Sys2Proof.Machine.FlashLaws
end

section
/-! SUPPORT. The parts of an area by offset, and the phases of a commit (R154, R155, R160). -/

namespace Sys2Proof.Machine.FlashLaws

open LessonLaws StillLaws

/-! ### The parts of an area (R154, R155) -/

theorem contentAt_below (a : Area) {x : Nat} (h : x < pictureOffset) : a.contentAt x = .byte (readCell a.cells x) :=
  if_pos h

theorem contentAt_picture (a : Area) {x : Nat} (h : pictureOffset ≤ x) : a.contentAt x = .picture a.frames :=
  if_neg (Nat.not_lt.mpr h)

/-- Nothing is put from the picture region on. -/
theorem put_picture (a : Area) {x : Nat} (h : pictureOffset ≤ x) (l : List Byte) : a.put x l = a := by
  rw [Area.put, Nat.sub_eq_zero_of_le h]
  rfl

theorem areaLayout : Says.AreaLayout :=
  ⟨fun a x => ⟨contentAt_below a, fun h => ⟨contentAt_picture a h, put_picture a h⟩, fun l => a.put_eq x l,
    fun n => ⟨a.read_eq x n, a.read_picture x n⟩⟩, fun _ => pageOffset_below⟩

/-! ### The header of a lesson as it stands (R160) -/

@[simp] theorem dirBlocks_none : dirBlocks none = 0 := rfl

theorem dirEntry_eq (s : State) (i : Fin 64) : s.dirEntry i = s.entryOf i := by
  unfold State.dirEntry State.entryOf
  cases (s.page i).still <;> rfl

@[simp] theorem entryOf_isSome (s : State) (i : Fin 64) : (s.entryOf i).isSome = (s.page i).still.isSome := by
  unfold State.entryOf
  cases (s.page i).still <;> rfl

@[simp] theorem dirBlocks_entryOf (s : State) (i : Fin 64) : dirBlocks (s.entryOf i) = s.blocksOf (s.page i).still := by
  unfold State.entryOf
  cases (s.page i).still <;> rfl

section
variable {s : State} {l : Fin 8} (hlen : (s.lesson l).order.length ≤ 32)
include hlen

theorem directory_eq :
    s.directory l = (s.lesson l).order.map s.entryOf ++ List.replicate (32 - (s.lesson l).order.length) none := by
  refine List.ext_getElem (by simp [State.directory, hlen]) fun k hk _ => ?_
  rw [State.directory, List.length_map, List.length_range] at hk
  simp only [State.directory, List.getElem_map, List.getElem_range, State.entryAt, dirEntry_eq, List.getElem_append,
    List.length_map, List.getElem_replicate]
  by_cases h : k < (s.lesson l).order.length
  · rw [if_pos h, dif_pos h, List.getD_eq_getElem _ _ h]
  · rw [if_neg h, dif_neg h]

theorem headerOf_eq : s.headerOf l = s.headerNow l := by
  simp [State.headerOf, State.headerNow, directory_eq hlen, ← List.countP_eq_length_filter, List.countP_map,
    Function.comp_def]

theorem blocksBefore_directory {k : Nat} (hk : k ≤ (s.lesson l).order.length) :
    blocksBefore (s.directory l) k = s.packedBefore l k := by
  rw [blocksBefore, directory_eq hlen, List.take_append_of_le_length (by rwa [List.length_map]), ← List.map_take,
    List.map_map]
  simp [State.packedBefore, Function.comp_def]

/-- The first block of the k-th page of the order (R155, R160). -/
theorem firstBlock_directory {k : Nat} {i : Fin 64} (hi : (s.lesson l).order[k]? = some i) :
    firstBlock (s.directory l) k = if (s.page i).still.isSome then s.packedBefore l k else 0 := by
  obtain ⟨hk, rfl⟩ := List.getElem?_eq_some_iff.mp hi
  have hentry : (s.directory l).getD k none = s.entryOf (s.lesson l).order[k] := by
    rw [directory_eq hlen, List.getD_append _ _ _ _ (by rwa [List.length_map]),
      List.getD_eq_getElem _ _ (by rwa [List.length_map]), List.getElem_map]
  rw [firstBlock, hentry, entryOf_isSome, blocksBefore_directory hlen hk.le]

end

/-! ### Block frames (R154, R160) -/

/-- The first m blocks of a picture of n blocks written into an area's frames. -/
theorem foldl_writeFrames (v : Vector (Option BlockFrame) 64) (first n : Nat) (p : Picture) {m : Nat}
    (hroom : first + m ≤ 64) :
    (List.range m).foldl (fun v i => v.set (Fin.ofNat 64 (first + i)) (some ⟨p, i, n⟩)) v =
      Vector.ofFn fun f => if first ≤ f.val ∧ f.val < first + m then some ⟨p, f.val - first, n⟩ else v[f] := by
  induction m with
  | zero =>
    refine Vector.ext fun f hf => ?_
    rw [Vector.getElem_ofFn, if_neg (by dsimp only; omega)]
    rfl
  | succ m ih =>
    have hplace : (Fin.ofNat 64 (first + m)).val = first + m := Nat.mod_eq_of_lt (by omega)
    rw [List.range_succ, List.foldl_append, ih (by omega)]
    refine Vector.ext fun f hf => ?_
    simp only [List.foldl_cons, List.foldl_nil, Vector.getElem_set, Vector.getElem_ofFn, hplace]
    by_cases hfm : first + m = f
    · rw [if_pos hfm, if_pos (by omega), ← hfm, Nat.add_sub_cancel_left]
    · rw [if_neg hfm]
      exact if_congr (by omega) rfl rfl

theorem writeFrames_eq (v : Vector (Option BlockFrame) 64) {first n : Nat} (p : Picture) (hroom : first + n ≤ 64) :
    writeFrames v first n p = framesWith v first n p := foldl_writeFrames v first n p hroom

/-! ### The end of a phase (R160) -/

theorem exec_commitPhaseEnd {s : State} {l : Fin 8} {p : CommitPhase} (hop : s.op = some (.commit l p)) :
    exec .commitPhaseEnd s = .next (s.commitPhaseEnd l p) := by
  show execCommitPhaseEnd s = _
  rw [execCommitPhaseEnd, hop]

theorem modArea_modArea (s : State) (l : Fin 8) (f g : Area → Area) :
    (s.modArea l f).modArea l g = s.modArea l fun a => g (f a) := by
  simp [State.modArea]

section
variable {s : State} {l : Fin 8} {k : Nat} {i : Fin 64} (hlen : (s.lesson l).order.length ≤ 32)
  (hi : (s.lesson l).order[k]? = some i)
include hlen hi

theorem writePage_bare (hstill : (s.page i).still = none) :
    s.writePage l k = s.modArea l fun a => a.put (128 + 130 * k) (pageBytes (s.page i).setup false 0) := by
  simp only [State.writePage, firstBlock_directory hlen hi, entryAt_of_getElem? hi, hstill]
  rfl

theorem writePage_still {j : Fin 24} {p : Picture} (hstill : (s.page i).still = some j)
    (hpicture : (s.slot j).picture = some p) (hroom : s.packedBefore l k + (s.slot j).blocks ≤ 64) :
    s.writePage l k = s.modArea l fun a =>
      { a.put (128 + 130 * k) (pageBytes (s.page i).setup true (s.packedBefore l k)) with
        frames := framesWith a.frames (s.packedBefore l k) (s.slot j).blocks p } := by
  simp only [State.writePage, firstBlock_directory hlen hi, entryAt_of_getElem? hi, hstill, modArea_modArea, hpicture,
    Option.getD_some, Option.isSome_some, if_true, Area.writePicture, ← writeFrames_eq _ _ hroom]
  rfl

end

theorem commitPhasesWriteArea : Says.CommitPhasesWriteArea := by
  intro s l hlen
  refine ⟨fun hop => ?erase, fun hop => ?header, fun k i hop hi => ⟨fun hstill => ?bare,
    fun j p hstill hpicture hroom => ?still⟩⟩
  all_goals rw [exec_commitPhaseEnd hop]
  case erase => rfl
  case header => rw [← headerOf_eq hlen]; rfl
  case bare => rw [State.commitPhaseEnd, writePage_bare hlen hi hstill]; rfl
  case still => rw [State.commitPhaseEnd, writePage_still hlen hi hstill hpicture hroom]; rfl

/-! ### The end of MARKER (R160) -/

/-- The records of an order once their dirty flags are no. -/
theorem foldl_clean_page (is : List (Fin 64)) (s : State) (j : Fin 64) :
    (is.foldl (fun t i => t.modPage i fun r => { r with dirty := false }) s).page j =
      if j ∈ is then { s.page j with dirty := false } else s.page j := by
  induction is generalizing s with
  | nil => simp
  | cons i rest ih =>
    rw [List.foldl_cons, ih, State.modPage_page]
    by_cases hij : i = j
    · subst hij
      simp
    · simp [hij, Ne.symm hij]

theorem foldl_clean_frame (is : List (Fin 64)) (s : State) :
    is.foldl (fun t i => t.modPage i fun r => { r with dirty := false }) s =
      { s with
        records := Vector.ofFn fun i => if i ∈ is then { s.page i with dirty := false } else s.page i } := by
  have hrecords : (is.foldl (fun t i => t.modPage i fun r => { r with dirty := false }) s).records =
      Vector.ofFn fun i => if i ∈ is then { s.page i with dirty := false } else s.page i :=
    records_eq fun j => (foldl_clean_page is s j).trans (by simp)
  rw [← hrecords]
  clear hrecords
  induction is generalizing s with
  | nil => rfl
  | cons i rest ih => exact ih _

theorem completeCommit_eq (s : State) (l : Fin 8) :
    s.completeCommit l =
      { s with
        lessons := s.lessons.set l
          { s.lesson l with st := .opened, stored := true, lost := false, progress := none, dirty := false }
        records := Vector.ofFn fun i =>
          if i ∈ (s.lesson l).order then { s.page i with dirty := false } else s.page i
        descs := s.descs.set l ⟨true, true, some (s.headerOf l)⟩
        op := none
        link := { s.link with status := s.link.status ||| Flag.only .commitDone } } := by
  simp only [State.completeCommit, foldl_clean_frame, State.modLesson, State.setDesc, State.setFlag, State.lesson]
  rfl

theorem commitCompletes : Says.CommitCompletes := by
  intro s l hlen hop
  have hheader : (s.modArea l Area.writeMarker).headerOf l = s.headerNow l := headerOf_eq hlen
  rw [exec_commitPhaseEnd hop, State.commitPhaseEnd, completeCommit_eq, hheader, ← Area.writeMarker_eq]
  rfl

/-! ### A phase end without its operation, and the end of a clear (R167) -/

theorem phaseEndsWithoutOperation : Says.PhaseEndsWithoutOperation := by
  intro s
  refine ⟨fun hop => ?commit, fun hop => ?load, fun hop => ?clear, fun l hop => ?cleared, fun hop c hc => ?step⟩
  case commit =>
    show execCommitPhaseEnd s = _
    unfold execCommitPhaseEnd
    split
    · next l p h => exact absurd h (hop l p)
    · rfl
  case load =>
    show execLoadPhaseEnd s = _
    unfold execLoadPhaseEnd
    split
    · next l p h => exact absurd h (hop l p)
    · rfl
  case clear =>
    show execClearEnd s = _
    unfold execClearEnd
    split
    · next l h => exact absurd h (hop l)
    · rfl
  case cleared =>
    show execClearEnd s = _
    rw [execClearEnd, hop]
  case step =>
    have hfails : s.stepFails = s := by rw [State.stepFails, hop]
    have hphase : s.inErasePhase = false := by rw [State.inErasePhase, hop]
    fin_cases hc
    · exact congrArg Host.Outcome.next hfails
    · show execFlashStepFailure true s = _
      simp [execFlashStepFailure, hphase, hfails]
    · show execFlashStepFailure false s = _
      simp [execFlashStepFailure, hfails]

/-- Settles O45, from the layout of an area, the header and the block frames of the lesson as it stands, phase by
phase. -/
theorem commitPhases : Obligations.CommitPhases :=
  ⟨areaLayout, commitPhasesWriteArea, commitCompletes, phaseEndsWithoutOperation⟩

end Sys2Proof.Machine.FlashLaws
end

section
/-! SUPPORT. The phases of a load and the failures of flash steps (R160, R161, R164, R165, R167). -/

namespace Sys2Proof.Machine.FlashLaws

open LessonLaws StillLaws

/-! ### A load completes, or goes on (R63, R164) -/

/-- A LOADING record once it is OPEN in lesson l: its fill pending has become its still (R63, R164). -/
def openedRecord (l : Fin 8) (r : Record) : Record :=
  { r with st := .opened, lesson := some l, still := r.fill, fill := none, dirty := false, selRefs := 0, cycRefs := 0,
           holds := 0 }

/-- The slot of a completed fill from a load (R63). -/
def readySlot (x : Slot) : Slot := { x with st := .ready, source := none, phase := none }

theorem openLoaded_loadAct (l : Fin 8) : LoadAct (State.openLoaded l) (openedRecord l) readySlot fun _ => 0 where
  page s i j := by
    unfold State.openLoaded
    cases (s.page i).fill <;> exact State.modPage_page _ i j (openedRecord l)
  slot s i k := by
    unfold State.openLoaded
    cases (s.page i).fill with
    | none => rfl
    | some m =>
      refine (s.modSlot_slot m k readySlot).trans ?_
      by_cases h : m = k <;> simp [h]
  freeBlocks s i := by
    unfold State.openLoaded
    cases (s.page i).fill <;> rfl
  frame s i := by
    unfold State.openLoaded
    cases (s.page i).fill <;> rfl

theorem completeLoad_eq {s : State} (h : s.fillsApart) (l : Fin 8) : s.completeLoad l = s.loadCompleted l := by
  have hblocks : (s.loadings.map fun i => (s.page i).fill.elim 0 fun _ => 0).sum = 0 :=
    List.sum_eq_zero_iff.mpr fun n hn => by
      obtain ⟨i, -, rfl⟩ := List.mem_map.mp hn
      cases (s.page i).fill <;> rfl
  simp only [State.completeLoad, loadingRecords_eq, foldl_loadings (openLoaded_loadAct l) h, State.loadCompleted,
    State.modLesson, State.lesson, State.setFlag, hblocks, Nat.add_zero]
  rfl

theorem loadNext_eq {s : State} (h : s.fillsApart) (l : Fin 8) (pages k : Nat) :
    s.loadNext l pages k = s.loadGoesOn l pages k := by
  rw [State.loadNext, State.loadGoesOn, completeLoad_eq h]

/-- Fills stay apart where the states and the fills pending of records stand. -/
theorem fillsApart_congr {s t : State} (h : s.fillsApart) (hst : ∀ i, (t.page i).st = (s.page i).st)
    (hfill : ∀ i, (t.page i).fill = (s.page i).fill) : t.fillsApart := by
  intro i j hi hj
  rw [mem_loadings, hst] at hi hj
  rw [hfill, hfill]
  exact h i j (mem_loadings.mpr hi) (mem_loadings.mpr hj)

theorem fillsApart_setup {s : State} (h : s.fillsApart) (i : Fin 64) (x : Setup) :
    (s.modPage i fun r => { r with setup := x }).fillsApart := by
  refine fillsApart_congr h (fun j => ?_) fun j => ?_ <;> rw [State.modPage_page] <;> split
  · next hij => rw [hij]
  · rfl
  · next hij => rw [hij]
  · rfl

theorem fillsApart_modSlot {s : State} (h : s.fillsApart) (j : Fin 24) (f : Slot → Slot) : (s.modSlot j f).fillsApart :=
  h

/-! ### The end of HEADER (R164) -/

theorem exec_loadPhaseEnd {s : State} {l : Fin 8} {p : LoadPhase} (hop : s.op = some (.load l p)) :
    exec .loadPhaseEnd s = .next (s.loadPhaseEnd l p) := by
  show execLoadPhaseEnd s = _
  rw [execLoadPhaseEnd, hop]

/-- An area reads as a sound descriptor exactly when its marker is valid and its header reads (R156). -/
theorem describe_eq_iff (a : Area) (l : Fin 8) (h : HeaderVals) :
    a.describe l = ⟨true, true, some h⟩ ↔ a.readHeader l = some h ∧ a.markerValid = true := by
  unfold Area.describe
  cases a.markerValid <;> cases a.readHeader l <;> simp [AreaDesc.invalid]

theorem loadHeaderIsCompared : Says.LoadHeaderIsCompared := by
  intro s l h hop hdesc happart
  have hend : exec .loadPhaseEnd s =
      .next (if s.areas[l].describe l = ⟨true, true, some h⟩ then s.loadGoesOn l h.pages 0 else s.loadFailed l) := by
    rw [exec_loadPhaseEnd hop, ← loadNext_eq happart, ← failLoad_eq happart]
    simp only [State.loadPhaseEnd, hdesc, describe_eq_iff]
  exact ⟨fun hsame => by rw [hend, if_pos hsame], fun hother => by rw [hend, if_neg hother]⟩

/-! ### The end of PAGE k (R164) -/

/-- The picture of a still whose block frames stand in order is that picture (R154, R164). -/
theorem pictureOf_framesAt {v : Vector (Option BlockFrame) 64} {first n : Nat} {p : Picture} (hn : 0 < n)
    (h : ∀ i : Nat, i < n → v.toList.getD (first + i) none = some ⟨p, i, n⟩) : pictureOf (framesAt v first n) = p := by
  have hframes : framesAt v first n = (List.range n).map fun i => some ⟨p, i, n⟩ :=
    List.map_congr_left fun i hi => h i (List.mem_range.mp hi)
  obtain ⟨m, rfl⟩ := Nat.exists_eq_succ_of_ne_zero hn.ne'
  rw [hframes, List.range_succ_eq_map, List.map_cons]
  simp [pictureOf, List.range_succ_eq_map]

theorem exec_loadPhaseEnd_page {s : State} {l : Fin 8} {h : HeaderVals} {k : Nat}
    (hop : s.op = some (.load l (.page k))) (hdesc : s.descs[l].header = some h) :
    exec .loadPhaseEnd s = .next (s.loadPage l h k) := by
  rw [exec_loadPhaseEnd hop]
  simp only [State.loadPhaseEnd, hdesc]

theorem loadPage_unread {s : State} {l : Fin 8} {k : Nat} (h : HeaderVals) (hb : s.areas[l].readPage k = none) :
    s.loadPage l h k = s.failLoad l := by
  rw [State.loadPage, hb]

/-- A page whose image is read is judged by the directory (R164). -/
theorem loadPage_read {s : State} {l : Fin 8} {k : Nat} {b : List Byte} (h : HeaderVals)
    (hb : s.areas[l].readPage k = some b) :
    s.loadPage l h k =
      if pageFits h.dir k b then (s.writeLoaded l h.dir k b).loadNext l h.pages (k + 1) else s.failLoad l := by
  rw [State.loadPage, hb]

theorem readPage_eq_none {a : Area} {k : Nat}
    (h : a.answers = false ∨ a.read (128 + 130 * k) 130 = none ∨
      ∃ b, a.read (128 + 130 * k) 130 = some b ∧ pageSound b = false) : a.readPage k = none := by
  unfold Area.readPage pageOffset
  rcases h with h | h | ⟨b, h, hsound⟩
  · simp [h]
  · simp [h]
  · simp [h, hsound]

theorem readPage_eq_some {a : Area} {k : Nat} {b : List Byte} (ha : a.answers = true)
    (hb : a.read (128 + 130 * k) 130 = some b) (hsound : pageSound b = true) : a.readPage k = some b := by
  unfold Area.readPage pageOffset
  simp [ha, hb, hsound]

theorem pageFits_iff (dir : List (Option DirEntry)) (k : Nat) (b : List Byte) :
    pageFits dir k b = true ↔ flagged b 5 = (dir.getD k none).isSome ∧ byteAt b 124 = firstOf dir k := by
  rw [pageFits, Bool.and_eq_true, beq_iff_eq, beq_iff_eq]
  rfl

section
variable {s : State} {l : Fin 8} {k : Nat} {i : Fin 64} (hi : s.loadings[k]? = some i)
  (dir : List (Option DirEntry)) (b : List Byte)
include hi

theorem writeLoaded_bare (hfill : (s.page i).fill = none) :
    s.writeLoaded l dir k b = s.modPage i fun r => { r with setup := pageSetup b } := by
  simp [State.writeLoaded, State.loadRecord, loadingRecords_eq, hi, State.fillLoaded, hfill]

theorem writeLoaded_filled {j : Fin 24} (hfill : (s.page i).fill = some j) :
    s.writeLoaded l dir k b =
      (s.modPage i fun r => { r with setup := pageSetup b }).modSlot j fun x =>
        { x with picture := some (s.loadedPicture l dir k) } := by
  simp only [State.writeLoaded, State.loadRecord, loadingRecords_eq, hi, State.fillLoaded, State.modPage_page_same,
    hfill]
  rfl

end

theorem loadPagesFillRecords : Says.LoadPagesFillRecords := by
  intro s l h k i hop hdesc happart hi
  have hfails : s.areas[l].readPage k = none → exec .loadPhaseEnd s = .next (s.loadFailed l) := fun hnone => by
    rw [exec_loadPhaseEnd_page hop hdesc, loadPage_unread h hnone, failLoad_eq happart]
  refine ⟨fun hread => hfails (readPage_eq_none (hread.imp_right .inl)), fun b ha hb => ⟨fun hbad => ?unfit,
    fun hsound hflag hfirst => ⟨fun hfill => ?bare, fun e j p hentry hblocks hfill hframes => ?filled⟩⟩⟩
  case unfit =>
    cases hsound : pageSound b with
    | false => exact hfails (readPage_eq_none (.inr (.inr ⟨b, hb, hsound⟩)))
    | true =>
      have hunfit : ¬ pageFits h.dir k b = true := by
        rw [pageFits_iff]
        rintro ⟨hflag, hfirst⟩
        rcases hbad with hbad | hbad | hbad
        · simp [hsound] at hbad
        · exact hbad hflag
        · exact hbad hfirst
      rw [exec_loadPhaseEnd_page hop hdesc, loadPage_read h (readPage_eq_some ha hb hsound), if_neg hunfit,
        failLoad_eq happart]
  all_goals
    have hgoes : exec .loadPhaseEnd s = .next ((s.writeLoaded l h.dir k b).loadNext l h.pages (k + 1)) := by
      rw [exec_loadPhaseEnd_page hop hdesc, loadPage_read h (readPage_eq_some ha hb hsound),
        if_pos ((pageFits_iff _ _ _).mpr ⟨hflag, hfirst⟩)]
  case bare =>
    rw [hgoes, writeLoaded_bare hi _ b hfill, loadNext_eq (fillsApart_setup happart i _)]
    rfl
  case filled =>
    have hpicture : s.loadedPicture l h.dir k = p := by
      have hd : h.dir.getD k none = some e := by rw [List.getD_eq_getElem?_getD, hentry, Option.getD_some]
      rw [State.loadedPicture, hd]
      exact pictureOf_framesAt hblocks hframes
    rw [hgoes, writeLoaded_filled hi _ b hfill, hpicture,
      loadNext_eq (fillsApart_modSlot (fillsApart_setup happart i _) j _)]
    rfl

/-! ### Failures of flash steps (R160, R161, R164, R165, R167) -/

theorem exec_flashStepTimeout (s : State) : exec .flashStepTimeout s = .next s.stepFails := rfl

theorem exec_flashStepFailure (clearAlone : Bool) (s : State) :
    exec (.flashStepFailure clearAlone) s = .next (if clearAlone ∧ s.inErasePhase then s else s.stepFails) := rfl

theorem stepFails_commit {s : State} {l : Fin 8} {p : CommitPhase} (hop : s.op = some (.commit l p)) :
    s.stepFails = s.commitFailed l := by rw [State.stepFails, hop]; rfl

theorem stepFails_load {s : State} {l : Fin 8} {p : LoadPhase} (hop : s.op = some (.load l p)) (h : s.fillsApart) :
    s.stepFails = s.loadFailed l := by rw [State.stepFails, hop, ← failLoad_eq h]

theorem stepFails_clear {s : State} {l : Fin 8} (hop : s.op = some (.clear l)) :
    s.stepFails = { s with op := none } := by rw [State.stepFails, hop]

theorem flashStepFailures : Says.FlashStepFailures := by
  intro s l
  refine ⟨fun p hop => ⟨?_, ?_, fun hp => ?_⟩, fun p hop happart => ⟨?_, ?_⟩, fun hop => ⟨?_, fun clearAlone => ?_⟩⟩
  · rw [exec_flashStepTimeout, stepFails_commit hop]
  · simp [exec_flashStepFailure, stepFails_commit hop]
  · simp [exec_flashStepFailure, State.inErasePhase, hop, hp]
  · rw [exec_flashStepTimeout, stepFails_load hop happart]
  · simp [exec_flashStepFailure, stepFails_load hop happart]
  · rw [exec_flashStepTimeout, stepFails_clear hop]
  · simp [exec_flashStepFailure, State.inErasePhase, hop, stepFails_clear hop]

/-- Settles O46, by the header compared, the images judged and written page by page, and the records opened or dropped
one after the other. -/
theorem loadPhases : Obligations.LoadPhases := ⟨loadHeaderIsCompared, loadPagesFillRecords, flashStepFailures⟩

end Sys2Proof.Machine.FlashLaws
end

section
/-! SUPPORT. Bytes, numbers and half-bytes at places of a list, and the check as the polynomial's (R154, R155). -/

namespace Sys2Proof.Machine.FlashLaws

/-! ### Bytes at places -/

theorem byteAt_lt (b : List Byte) (i : Nat) : byteAt b i < 256 := (b.getD i 0).isLt

theorem byteAt_eq_getElem {b : List Byte} {i : Nat} (h : i < b.length) : byteAt b i = b[i].toNat := by
  rw [byteAt, List.getD_eq_getElem _ _ h]

/-- Beyond the end there are zeros. -/
theorem byteAt_beyond {b : List Byte} {i : Nat} (h : b.length ≤ i) : byteAt b i = 0 := by
  rw [byteAt, List.getD_eq_default _ _ h]
  rfl

@[simp] theorem byteAt_nil (i : Nat) : byteAt [] i = 0 := rfl

@[simp] theorem byteAt_cons_zero (c : Byte) (b : List Byte) : byteAt (c :: b) 0 = c.toNat := rfl

@[simp] theorem byteAt_cons_succ (c : Byte) (b : List Byte) (i : Nat) : byteAt (c :: b) (i + 1) = byteAt b i := rfl

theorem byteAt_append_left {a : List Byte} (b : List Byte) {i : Nat} (h : i < a.length) :
    byteAt (a ++ b) i = byteAt a i := by rw [byteAt, List.getD_append _ _ _ _ h, byteAt]

@[simp] theorem byteAt_append_right (a b : List Byte) (i : Nat) : byteAt (a ++ b) (a.length + i) = byteAt b i := by
  rw [byteAt, List.getD_append_right _ _ _ _ (Nat.le_add_right _ _), Nat.add_sub_cancel_left, byteAt]

@[simp] theorem byteAt_zeros (n i : Nat) : byteAt (List.replicate n 0) i = 0 := by
  by_cases h : i < n
  · rw [byteAt_eq_getElem (by rwa [List.length_replicate]), List.getElem_replicate]
    rfl
  · exact byteAt_beyond (by rw [List.length_replicate]; omega)

@[simp] theorem byteAt_drop (b : List Byte) (i k : Nat) : byteAt (b.drop i) k = byteAt b (i + k) := by
  simp only [byteAt, List.getD_eq_getElem?_getD, List.getElem?_drop]

theorem byteAt_take {b : List Byte} {n k : Nat} (h : k < n) : byteAt (b.take n) k = byteAt b k := by
  simp only [byteAt, List.getD_eq_getElem?_getD, List.getElem?_take_of_lt h]

theorem byteAt_slice {b : List Byte} {n k : Nat} (i : Nat) (h : k < n) : byteAt (slice b i n) k = byteAt b (i + k) := by
  rw [slice, byteAt_take h, byteAt_drop]

theorem slice_length {b : List Byte} {i n : Nat} (h : i + n ≤ b.length) : (slice b i n).length = n := by
  rw [slice, List.length_take, List.length_drop]
  omega

/-- Lists of one length with the same bytes are the same. -/
theorem eq_of_byteAt {a b : List Byte} (hlen : a.length = b.length) (h : ∀ k, k < a.length → byteAt a k = byteAt b k) :
    a = b :=
  List.ext_getElem hlen fun k ha hb =>
    BitVec.eq_of_toNat_eq (by rw [← byteAt_eq_getElem ha, ← byteAt_eq_getElem hb, h k ha])

theorem all_zero_iff (b : List Byte) : (b.all (· == 0)) = true ↔ ∀ k, byteAt b k = 0 := by
  induction b with
  | nil => simp
  | cons c rest ih =>
    rw [List.all_cons, Bool.and_eq_true, ih, beq_iff_eq]
    constructor
    · rintro ⟨rfl, hrest⟩ (_ | k)
      · rfl
      · exact hrest k
    · exact fun h => ⟨BitVec.eq_of_toNat_eq (h 0), fun k => h (k + 1)⟩

theorem zerosAt_iff (b : List Byte) (i n : Nat) : zerosAt b i n = true ↔ ∀ k, k < n → byteAt b (i + k) = 0 := by
  rw [zerosAt, all_zero_iff]
  refine forall_congr' fun k => ?_
  by_cases hk : k < n
  · simp [byteAt_slice i hk, hk]
  · have hlen : (slice b i n).length ≤ k := by rw [slice, List.length_take]; omega
    simp [byteAt_beyond hlen, hk]

/-! ### Numbers (R154) -/

@[simp] theorem byteOf_toNat (n : Nat) : (byteOf n).toNat = n % 256 := rfl

@[simp] theorem byteAt_be16_zero (n : Nat) : byteAt (be16 n) 0 = n / 256 % 256 := rfl

@[simp] theorem byteAt_be16_one (n : Nat) : byteAt (be16 n) 1 = n % 256 := rfl

theorem numberAt_two (b : List Byte) (x : Nat) : numberAt b x 2 = 256 * byteAt b x + byteAt b (x + 1) := by
  simp [numberAt, List.range_succ]

/-- A two-byte number at a place is the number whose bytes stand there. -/
theorem numberAt_of_be16 {b : List Byte} {x n : Nat} (hhigh : byteAt b x = n / 256 % 256)
    (hlow : byteAt b (x + 1) = n % 256) (hn : n < 65536) : numberAt b x 2 = n := by
  rw [numberAt_two, hhigh, hlow]
  omega

theorem numberAt_two_eq_wordAt (b : List Byte) (x : Nat) : numberAt b x 2 = wordAt b x := numberAt_two b x

theorem wordAt_lt (b : List Byte) (x : Nat) : wordAt b x < 65536 := by
  have hhigh := byteAt_lt b x
  have hlow := byteAt_lt b (x + 1)
  unfold wordAt
  omega

theorem numberAt_six (b : List Byte) (x : Nat) :
    numberAt b x 6 =
      256 * (256 * (256 * (256 * (256 * byteAt b x + byteAt b (x + 1)) + byteAt b (x + 2)) + byteAt b (x + 3))
        + byteAt b (x + 4)) + byteAt b (x + 5) := by
  simp [numberAt, List.range_succ]

/-! ### Half-bytes (R155) -/

theorem halfAt_zero (b : List Byte) (x : Nat) : halfAt b x 0 = byteAt b x / 16 := rfl

theorem halfAt_one (b : List Byte) (x : Nat) : halfAt b x 1 = byteAt b x % 16 := rfl

theorem halfAt_lt (b : List Byte) (x n : Nat) : halfAt b x n < 16 := by
  have h := byteAt_lt b (x + n / 2)
  unfold halfAt
  split <;> omega

/-- Half-bytes on are those of the bytes that stand there. -/
theorem halfAt_of_bytes {b p : List Byte} {x n : Nat} (h : ∀ m, m < p.length → byteAt b (x + m) = byteAt p m)
    (hn : n / 2 < p.length) : halfAt b x n = halfAt p 0 n := by
  rw [halfAt, h _ hn, halfAt, Nat.zero_add]

/-- Nibbles of bytes at a place are half-bytes from it on. -/
theorem nibbleAt_slice {b : List Byte} {x m n : Nat} (h : n / 2 < m) : nibbleAt (slice b x m) n = halfAt b x n := by
  rw [nibbleAt, byteAt_slice x h, halfAt]

/-- Packed half-bytes are read back (R155). -/
theorem halfAt_packNibbles (l : List Nat) {n : Nat} (h : n < 2 * (l.length / 2)) :
    halfAt (packNibbles l) 0 n = l.getD n 0 % 16 := by
  induction l using packNibbles.induct generalizing n with
  | case1 a c rest ih =>
    match n with
    | 0 => rw [halfAt_zero, packNibbles, byteAt_cons_zero, nibblePair, byteOf_toNat, List.getD_cons_zero]; omega
    | 1 =>
      rw [halfAt_one, packNibbles, byteAt_cons_zero, nibblePair, byteOf_toNat, List.getD_cons_succ, List.getD_cons_zero]
      omega
    | n + 2 =>
      rw [List.length_cons, List.length_cons] at h
      have hn := ih (n := n) (by omega)
      have hhalf : halfAt (packNibbles (a :: c :: rest)) 0 (n + 2) = halfAt (packNibbles rest) 0 n := by
        have hplace : 0 + (n + 2) / 2 = 0 + n / 2 + 1 := by omega
        rw [halfAt, hplace, packNibbles, byteAt_cons_succ, Nat.add_mod_right, halfAt]
      rw [hhalf, hn]
      rfl
  | case2 l hshort =>
    match l, hshort with
    | [], _ => simp at h
    | [_], _ => simp at h
    | a :: c :: rest, hshort => exact absurd rfl (hshort a c rest)

/-! ### Bytes made of parts -/

/-- Part k of bytes made of parts stands after the parts before it. -/
theorem byteAt_flatten (parts : List (List Byte)) {k n : Nat} {part : List Byte} (hk : parts[k]? = some part)
    (hn : n < part.length) :
    byteAt parts.flatten (((parts.map List.length).take k).sum + n) = byteAt part n := by
  induction parts generalizing k with
  | nil => cases hk
  | cons p rest ih =>
    rw [List.flatten_cons]
    cases k with
    | zero =>
      obtain rfl : p = part := Option.some.inj hk
      rw [List.take_zero, List.sum_nil, Nat.zero_add, byteAt_append_left _ hn]
    | succ k =>
      rw [List.map_cons, List.take_succ_cons, List.sum_cons, Nat.add_assoc, byteAt_append_right]
      exact ih hk

/-- Parts of one width stand one after the other. -/
theorem byteAt_flatMap {α : Type} (f : α → List Byte) {w : Nat} (hw : ∀ a, (f a).length = w) (l : List α) {i n : Nat}
    (hi : i < l.length) (hn : n < w) : byteAt (l.flatMap f) (w * i + n) = byteAt (f l[i]) n := by
  induction l generalizing i with
  | nil => exact absurd hi (Nat.not_lt_zero i)
  | cons a rest ih =>
    rw [List.flatMap_cons]
    cases i with
    | zero =>
      rw [Nat.mul_zero, Nat.zero_add]
      exact byteAt_append_left _ (by rwa [hw])
    | succ i =>
      have hplace : w * (i + 1) + n = (f a).length + (w * i + n) := by rw [hw]; ring
      rw [hplace, byteAt_append_right]
      exact ih (Nat.lt_of_succ_lt_succ hi)

/-! ### The check (R154) -/

/-- The check of a list of bytes, one after the other, is that of their bits. -/
theorem foldl_crcByte_bits (b : List Byte) (c : BitVec 16) :
    b.foldl crcByte c =
      (bitsOf b).foldl (fun (c : BitVec 16) bit => (c <<< 1) ^^^ if c.msb = bit then 0#16 else 0x1021#16) c := by
  induction b generalizing c with
  | nil => rfl
  | cons x rest ih =>
    have hbits : bitsOf (x :: rest) = bitsOf [x] ++ bitsOf rest := by simp [bitsOf]
    rw [List.foldl_cons, ih, crcByte_bits, hbits, List.foldl_append]

theorem checkIsCrc : Says.CheckIsCrc := fun b => foldl_crcByte_bits b 0xFFFF

/-- Bytes hold their check exactly when the number at its place is the check of those before it (R154). -/
theorem crcHolds_iff {b : List Byte} {n : Nat} (hb : n + 2 ≤ b.length) :
    crcHolds b n = true ↔ numberAt b n 2 = (crc16 (b.take n)).toNat := by
  have hlen := slice_length hb
  have hcrc := (crc16 (b.take n)).isLt
  have hhigh := byteAt_slice (b := b) n (show 0 < 2 by decide)
  have hlow := byteAt_slice (b := b) n (show 1 < 2 by decide)
  have hhigh_lt := byteAt_lt b n
  have hlow_lt := byteAt_lt b (n + 1)
  rw [crcHolds, beq_iff_eq, numberAt_two, crcBytes]
  generalize (crc16 (b.take n)).toNat = c at hcrc
  constructor
  · intro h
    rw [h] at hhigh hlow
    rw [byteAt_be16_zero, Nat.add_zero] at hhigh
    rw [byteAt_be16_one] at hlow
    omega
  · intro h
    refine eq_of_byteAt hlen fun k hk => ?_
    rw [hlen] at hk
    match k, hk with
    | 0, _ => rw [hhigh, byteAt_be16_zero, Nat.add_zero]; omega
    | 1, _ => rw [hlow, byteAt_be16_one]; omega

end Sys2Proof.Machine.FlashLaws
end

section
/-! SUPPORT. The fields of the header and of the page image: bytes spell a value that R155 allows exactly when they are
in range and read as that value. -/

namespace Sys2Proof.Machine.FlashLaws

open LessonLaws

/-! ### Codes (R155) -/

theorem lockCodes_iff (k : Level) (n : Nat) : (k, n) ∈ lockCodes ↔ n ≤ 2 ∧ Level.ofNum n = k := by
  rcases n with _ | _ | _ | n <;> cases k <;> simp [lockCodes, Level.ofNum]

theorem rotationCodes_iff (r : Rotation) (n : Nat) :
    (r, n) ∈ [(Rotation.r0, 0), (.r90, 1), (.r180, 2), (.r270, 3)] ↔ n ≤ 3 ∧ rotationOf n = r := by
  rcases n with _ | _ | _ | _ | n <;> cases r <;> simp [rotationOf]

theorem modeCodes_iff (m : PageMode) (n : Nat) : (m, n) ∈ modeCodes ↔ n ≤ 5 ∧ modeOf n = m := by
  rcases n with _ | _ | _ | _ | _ | _ | n <;> cases m <;> simp [modeCodes, modeOf]

theorem markCodes_iff (k : MarkKind) (n : Nat) :
    (k, n) ∈ [(MarkKind.spotlight, 1), (.cover, 2), (.outline, 3)] ↔ 1 ≤ n ∧ n ≤ 3 ∧ markKindOf n = k := by
  rcases n with _ | _ | _ | _ | n <;> cases k <;> simp [markKindOf]

theorem lockCodes_rank (k : Level) : (k, k.rank) ∈ lockCodes := by cases k <;> decide

theorem rotationCodes_code (r : Rotation) :
    (r, rotationCode r) ∈ [(Rotation.r0, 0), (.r90, 1), (.r180, 2), (.r270, 3)] := by cases r <;> decide

theorem modeCodes_code (m : PageMode) : (m, modeCode m) ∈ modeCodes := by cases m <;> decide

theorem markCodes_code (k : MarkKind) : (k, markCode k) ∈ [(MarkKind.spotlight, 1), (.cover, 2), (.outline, 3)] := by
  cases k <;> decide

/-- The half-byte of an override, 15 where it is inherited. -/
def OverrideSpelled (o : Option PageMode) (n : Nat) : Prop :=
  match o with
  | none => n = 15
  | some m => (m, n) ∈ modeCodes

theorem overrideSpelled_iff (o : Option PageMode) (n : Nat) :
    OverrideSpelled o n ↔ (n ≤ 5 ∨ n = 15) ∧ overrideOf n = o := by
  cases o with
  | none =>
    rw [OverrideSpelled, overrideOf]
    split <;> simp [*]
  | some m =>
    rw [OverrideSpelled, modeCodes_iff, overrideOf]
    split
    · next h => simp [h]
    · next h => simp [h]

theorem overrideSpelled_code (o : Option PageMode) : OverrideSpelled o (overrideCode o) := by
  cases o with
  | none => rfl
  | some m => exact modeCodes_code m

/-! ### Labels (R4, R155) -/

theorem labelSpelled_slice {label : Option (List Byte)} {b : List Byte} {x : Nat} :
    labelSpelled label b x ↔ labelSpelled label (slice b x 25) 0 := by
  have hlen : byteAt (slice b x 25) 0 = byteAt b x := byteAt_slice x (by decide)
  have hchars : ∀ n, n < 24 → byteAt (slice b x 25) (0 + 1 + n) = byteAt b (x + 1 + n) := fun n hn => by
    rw [byteAt_slice x (by omega), Nat.zero_add, Nat.add_assoc]
  unfold labelSpelled
  rw [hlen]
  exact and_congr_right fun _ => forall_congr' fun n => imp_congr_right fun hn => by rw [hchars n hn]

theorem printable_iff (c : Byte) : printable c = true ↔ 0x20 ≤ c.toNat ∧ c.toNat ≤ 0x7E := by
  simp [printable]

theorem not_badLabel_iff (t : List Byte) : badLabel t = false ↔ isLabel t := by
  refine ⟨fun h => ?_, badLabel_of_isLabel⟩
  simp only [badLabel, Bool.or_eq_false_iff, decide_eq_false_iff_not, List.any_eq_false, Bool.or_eq_true,
    decide_eq_true_eq, not_or, Nat.not_lt, List.isEmpty_eq_false_iff] at h
  exact ⟨List.length_pos_iff.mpr h.1.1, h.1.2, h.2⟩

/-- The bytes of a label field from a place on are zeros exactly when those up to the field's end are. -/
theorem drop_zeros_iff {f : List Byte} (hf : f.length = 25) (n : Nat) :
    ((f.drop (1 + n)).all (· == 0)) = true ↔ ∀ k, n ≤ k → k < 24 → byteAt f (1 + k) = 0 := by
  rw [all_zero_iff]
  constructor
  · intro h k hk _
    obtain ⟨m, rfl⟩ := Nat.exists_eq_add_of_le hk
    have hm := h m
    rwa [byteAt_drop, Nat.add_assoc] at hm
  · intro h k
    rw [byteAt_drop]
    by_cases hk : n + k < 24
    · rw [Nat.add_assoc]
      exact h _ (Nat.le_add_right _ _) hk
    · exact byteAt_beyond (by omega)

/-- Bytes spell an absent label exactly when they are all zeros. -/
theorem labelSpelled_none {f : List Byte} (hf : f.length = 25) :
    labelSpelled none f 0 ↔ labelOk f = true ∧ labelOf f = none := by
  have hzeros := drop_zeros_iff hf 0
  simp only [Nat.zero_le, true_imp_iff] at hzeros
  constructor
  · rintro ⟨(hlen : byteAt f 0 = 0), hchars⟩
    simp only [Nat.zero_add] at hchars
    refine ⟨?_, if_pos hlen⟩
    rw [labelOk, hlen, hzeros.mpr hchars]
    rfl
  · rintro ⟨hok, hof⟩
    have hlen : byteAt f 0 = 0 := by
      unfold labelOf at hof
      split at hof
      · next h => exact h
      · cases hof
    simp only [labelOk, hlen, Bool.and_eq_true] at hok
    exact ⟨hlen, fun n hn => by rw [Nat.zero_add]; exact hzeros.mp hok.2 n hn⟩

/-- Bytes spell a label exactly when they are its length, its characters and zeros. -/
theorem labelSpelled_some {f : List Byte} (hf : f.length = 25) (t : List Byte) :
    labelSpelled (some t) f 0 ∧ isLabel t ↔ labelOk f = true ∧ labelOf f = some t := by
  have hchar : ∀ {n : Nat}, n ≤ 24 → ∀ k, k < n → byteAt (slice f 1 n) k = byteAt f (1 + k) := fun _ k hk =>
    byteAt_slice 1 hk
  constructor
  · rintro ⟨⟨(hlen : byteAt f 0 = t.length), (hchars : ∀ k, k < 24 → byteAt f (0 + 1 + k) = byteAt t k)⟩, hpos, hle,
      hprint⟩
    simp only [Nat.zero_add] at hchars
    have ht : slice f 1 t.length = t := by
      have hslice : (slice f 1 t.length).length = t.length := slice_length (by omega)
      refine eq_of_byteAt hslice fun k hk => ?_
      rw [hslice] at hk
      rw [hchar hle k hk, hchars k (by omega)]
    have hzeros := (drop_zeros_iff hf t.length).mpr fun k hk hk' => by rw [hchars k hk', byteAt_beyond hk]
    refine ⟨?_, ?_⟩
    · simp only [labelOk, hlen, ht, hzeros, hle, decide_true, Bool.true_and, Bool.and_true, List.all_eq_true]
      exact fun c hc => (printable_iff c).mpr (hprint c hc)
    · rw [labelOf, hlen, if_neg (by omega), ht]
  · rintro ⟨hok, hof⟩
    simp only [labelOk, Bool.and_eq_true, decide_eq_true_eq, List.all_eq_true] at hok
    obtain ⟨⟨hle, hprint⟩, hzeros⟩ := hok
    unfold labelOf at hof
    split at hof
    · cases hof
    · next hne =>
      obtain rfl := Option.some.inj hof
      have hslice : (slice f 1 (byteAt f 0)).length = byteAt f 0 := slice_length (by omega)
      refine ⟨⟨hslice.symm, fun k hk => ?_⟩, by rw [hslice]; omega, by rwa [hslice],
        fun c hc => (printable_iff c).mp (hprint c hc)⟩
      rw [Nat.zero_add]
      by_cases hin : k < byteAt f 0
      · exact (hchar hle k hin).symm
      · have hzero := (drop_zeros_iff hf _).mp (List.all_eq_true.mpr hzeros) k (Nat.not_lt.mp hin) hk
        exact hzero.trans (byteAt_beyond (by omega)).symm

theorem labelSpelled_iff {label : Option (List Byte)} {b : List Byte} {x : Nat} (hx : x + 25 ≤ b.length) :
    (labelSpelled label b x ∧ ∀ t, label = some t → isLabel t) ↔
      labelOk (slice b x 25) = true ∧ labelOf (slice b x 25) = label := by
  have hf := slice_length hx
  rw [labelSpelled_slice]
  cases label with
  | none => rw [← labelSpelled_none hf]; simp
  | some t => rw [← labelSpelled_some hf]; simp

/-- A label field is written with its length, its characters and zeros. -/
theorem byteAt_labelBytes {label : Option (List Byte)} (h : ∀ t, label = some t → t.length ≤ 24) {b : List Byte}
    {x : Nat} (hb : ∀ n, n < 25 → byteAt b (x + n) = byteAt (labelBytes label) n) : labelSpelled label b x := by
  have hlen := hb 0 (by decide)
  have hchars : ∀ n, n < 24 → byteAt b (x + 1 + n) = byteAt (labelBytes label) (n + 1) := fun n hn => by
    rw [Nat.add_assoc, Nat.add_comm 1 n, hb (n + 1) (by omega)]
  rw [Nat.add_zero] at hlen
  cases label with
  | none => exact ⟨hlen, fun n hn => (hchars n hn).trans (byteAt_zeros 25 (n + 1))⟩
  | some t =>
    have ht := h t rfl
    refine ⟨hlen.trans ?_, fun n hn => (hchars n hn).trans ?_⟩
    · rw [labelBytes, byteAt_cons_zero, byteOf_toNat, Nat.mod_eq_of_lt (by omega)]
    · rw [labelBytes, byteAt_cons_succ]
      by_cases hin : n < t.length
      · exact byteAt_append_left _ hin
      · obtain ⟨m, rfl⟩ := Nat.exists_eq_add_of_le (Nat.not_lt.mp hin)
        rw [byteAt_append_right, byteAt_zeros]
        exact (byteAt_beyond (Nat.le_add_right _ _)).symm

/-! ### Presence flags (R155) -/

/-- The presence flags of a page image, in the order of their bits (R155). -/
def presenceFlags (x : Setup) (still : Bool) : List Bool :=
  [x.corners.isSome, x.mirror, x.signature.isSome, x.matchEnable, x.preset.isSome, still, false, false]

theorem byte_lt_64_iff (c : Byte) : c.toNat < 64 ↔ c.getLsbD 6 = false ∧ c.getLsbD 7 = false := by
  revert c
  decide +kernel

theorem presence_iff (b : List Byte) (x : Setup) (still : Bool) :
    (∀ n : Fin 8, (b.getD 0 0).getLsbD n.val = (presenceFlags x still).getD n.val false) ↔
      byteAt b 0 < 64 ∧ flagged b 0 = x.corners.isSome ∧ flagged b 1 = x.mirror ∧ flagged b 2 = x.signature.isSome
        ∧ flagged b 3 = x.matchEnable ∧ flagged b 4 = x.preset.isSome ∧ flagged b 5 = still := by
  have hlt : byteAt b 0 < 64 ↔ (b.getD 0 0).getLsbD 6 = false ∧ (b.getD 0 0).getLsbD 7 = false := byte_lt_64_iff _
  constructor
  · exact fun h => ⟨hlt.mpr ⟨h 6, h 7⟩, h 0, h 1, h 2, h 3, h 4, h 5⟩
  · rintro ⟨hspare, h0, h1, h2, h3, h4, h5⟩
    obtain ⟨h6, h7⟩ := hlt.mp hspare
    intro n
    fin_cases n <;> assumption

theorem presence_bits (x : Setup) (still : Bool) (n : Fin 8) :
    (byteOf (presence x still)).getLsbD n.val = (presenceFlags x still).getD n.val false := by
  unfold presence presenceFlags
  generalize x.corners.isSome = c, x.mirror = m, x.signature.isSome = g, x.matchEnable = e, x.preset.isSome = p
  revert c m g e p still n
  decide +kernel

end Sys2Proof.Machine.FlashLaws
end

section
/-! SUPPORT. The page image: its items, its layout by offset, and its round trip (R155). -/

namespace Sys2Proof.Machine.FlashLaws

open LessonLaws

/-! ### Items with a presence flag (R155) -/

/-- The bytes of the corners. -/
def CornersSpelled (c : Option Corners) (b : List Byte) : Prop :=
  match c with
  | none => ∀ n : Nat, n < 16 → byteAt b (36 + n) = 0
  | some c => ∀ e ∈ [(36, c.tl), (40, c.tr), (44, c.br), (48, c.bl)],
    numberAt b e.1 2 = e.2.x ∧ numberAt b (e.1 + 2) 2 = e.2.y

/-- The four points of a page image. -/
def cornersAt (b : List Byte) : Corners := ⟨pointAt b 0, pointAt b 1, pointAt b 2, pointAt b 3⟩

theorem cornersSpelled_some_iff (c : Corners) (b : List Byte) : CornersSpelled (some c) b ↔ cornersAt b = c := by
  obtain ⟨⟨_, _⟩, ⟨_, _⟩, ⟨_, _⟩, ⟨_, _⟩⟩ := c
  simp [CornersSpelled, cornersAt, pointAt, numberAt_two_eq_wordAt]

theorem cornersAt_bad (b : List Byte) :
    (cornersAt b).bad = false ↔ ((List.range 4).all fun n => !(pointAt b n).bad) = true := by
  simp [cornersAt, Corners.bad, List.range_succ, and_assoc]

theorem cornersSpelled_iff (c : Option Corners) (b : List Byte) :
    flagged b 0 = c.isSome ∧ CornersSpelled c b ∧ (∀ c', c = some c' → c'.bad = false) ↔
      (if flagged b 0 then (List.range 4).all fun n => !(pointAt b n).bad else zerosAt b 36 16) = true
        ∧ (if flagged b 0 then some (cornersAt b) else none) = c := by
  cases c with
  | none => cases flagged b 0 <;> simp [CornersSpelled, zerosAt_iff]
  | some c =>
    rw [cornersSpelled_some_iff]
    cases flagged b 0 with
    | false => simp
    | true =>
      simp only [Option.isSome_some, true_and, Option.some.injEq, if_true, ← cornersAt_bad]
      exact ⟨fun ⟨he, hgood⟩ => ⟨he ▸ hgood c rfl, he⟩, fun ⟨hgood, he⟩ => ⟨he, fun c' hc => hc ▸ he ▸ hgood⟩⟩

/-- The half-bytes of the signature. -/
def SignatureSpelled (g : Option Signature) (b : List Byte) : Prop :=
  match g with
  | none => ∀ n : Nat, n < 8 → byteAt b (52 + n) = 0
  | some g => ∀ n : Fin 16, halfAt b 52 n.val = g[n].toNat

/-- The signature of a page image. -/
def signatureAt (b : List Byte) : Signature := Vector.ofFn fun i => BitVec.ofNat 4 (nibbleAt (slice b 52 8) i.val)

theorem signatureSpelled_some_iff (g : Signature) (b : List Byte) :
    SignatureSpelled (some g) b ↔ signatureAt b = g := by
  have hnibble : ∀ n : Fin 16, halfAt b 52 n.val = g[n].toNat ↔ (signatureAt b)[n] = g[n] := fun n => by
    have hlt := halfAt_lt b 52 n.val
    have hnth : (signatureAt b)[n] = BitVec.ofNat 4 (halfAt b 52 n.val) := by
      rw [← nibbleAt_slice (b := b) (x := 52) (m := 8) (n := n.val) (by omega)]
      exact Vector.getElem_ofFn n.isLt
    rw [hnth, ← BitVec.toNat_inj, BitVec.toNat_ofNat, Nat.mod_eq_of_lt hlt]
  constructor
  · exact fun h => Vector.ext fun n hn => (hnibble ⟨n, hn⟩).mp (h ⟨n, hn⟩)
  · rintro rfl n
    exact (hnibble n).mpr rfl

theorem signatureSpelled_iff (g : Option Signature) (b : List Byte) :
    flagged b 2 = g.isSome ∧ SignatureSpelled g b ↔
      (flagged b 2 || zerosAt b 52 8) = true ∧ (if flagged b 2 then some (signatureAt b) else none) = g := by
  cases g with
  | none => cases flagged b 2 <;> simp [SignatureSpelled, zerosAt_iff]
  | some g =>
    rw [signatureSpelled_some_iff]
    cases flagged b 2 <;> simp

/-- The numbers of the zoom preset. -/
def PresetSpelled (p : Option Preset) (b : List Byte) : Prop :=
  match p with
  | none => ∀ n : Nat, n < 6 → byteAt b (62 + n) = 0
  | some p => numberAt b 62 2 = p.zoom ∧ numberAt b 64 2 = p.x ∧ numberAt b 66 2 = p.y

/-- The zoom preset of a page image. -/
def presetAt (b : List Byte) : Preset := ⟨wordAt b 62, wordAt b 64, wordAt b 66⟩

theorem presetSpelled_some_iff (p : Preset) (b : List Byte) : PresetSpelled (some p) b ↔ presetAt b = p := by
  obtain ⟨_, _, _⟩ := p
  simp [PresetSpelled, presetAt, numberAt_two_eq_wordAt]

theorem presetSpelled_iff (p : Option Preset) (b : List Byte) :
    flagged b 4 = p.isSome ∧ PresetSpelled p b ∧ (∀ p', p = some p' → p'.bad = false) ↔
      (if flagged b 4 then !(presetAt b).bad else zerosAt b 62 6) = true
        ∧ (if flagged b 4 then some (presetAt b) else none) = p := by
  cases p with
  | none => cases flagged b 4 <;> simp [PresetSpelled, zerosAt_iff]
  | some p =>
    rw [presetSpelled_some_iff]
    cases flagged b 4 with
    | false => simp
    | true =>
      simp only [Option.isSome_some, true_and, Option.some.injEq, if_true, Bool.not_eq_true']
      exact ⟨fun ⟨he, hgood⟩ => ⟨he ▸ hgood p rfl, he⟩, fun ⟨hgood, he⟩ => ⟨he, fun p' hp => hp ▸ he ▸ hgood⟩⟩

/-! ### Marks (R17, R155) -/

/-- The bytes of mark position i. -/
def MarkSpelled (o : Option Mark) (b : List Byte) (i : Nat) : Prop :=
  match o with
  | none => byteAt b (68 + 7 * i) = 0
  | some m => (m.kind, byteAt b (68 + 7 * i)) ∈ [(MarkKind.spotlight, 1), (.cover, 2), (.outline, 3)]
    ∧ numberAt b (69 + 7 * i) 6 = ((m.x0 * 4096 + m.y0) * 4096 + m.x1) * 4096 + m.y1

theorem firstOf24_lt (b : List Byte) (x : Nat) : firstOf24 b x < 4096 := by
  have h0 := byteAt_lt b x
  have h1 := byteAt_lt b (x + 1)
  unfold firstOf24
  omega

theorem secondOf24_lt (b : List Byte) (x : Nat) : secondOf24 b x < 4096 := by
  have h := byteAt_lt b (x + 2)
  unfold secondOf24
  omega

/-- Six bytes are four 12-bit numbers (R155). -/
theorem numberAt_six_eq (b : List Byte) (x : Nat) :
    numberAt b x 6 =
      ((firstOf24 b x * 4096 + secondOf24 b x) * 4096 + firstOf24 b (x + 3)) * 4096 + secondOf24 b (x + 3) := by
  have h3 : x + 3 + 1 = x + 4 := rfl
  have h4 : x + 3 + 2 = x + 5 := rfl
  rw [numberAt_six, firstOf24, secondOf24, firstOf24, secondOf24, h3, h4]
  omega

theorem digits_inj {a0 a1 a2 a3 b0 b1 b2 b3 : Nat} (ha1 : a1 < 4096) (ha2 : a2 < 4096) (ha3 : a3 < 4096)
    (hb1 : b1 < 4096) (hb2 : b2 < 4096) (hb3 : b3 < 4096) :
    ((a0 * 4096 + a1) * 4096 + a2) * 4096 + a3 = ((b0 * 4096 + b1) * 4096 + b2) * 4096 + b3 ↔
      a0 = b0 ∧ a1 = b1 ∧ a2 = b2 ∧ a3 = b3 := by omega

theorem markSpelled_iff (o : Option Mark) (b : List Byte) (i : Nat) :
    (MarkSpelled o b i ∧ ∀ m, o = some m → markInRange m) ↔
      markOk b (68 + 7 * i) = true ∧ markAt b (68 + 7 * i) = o := by
  have hplace : 69 + 7 * i = 68 + 7 * i + 1 := by omega
  unfold MarkSpelled
  rw [hplace, markOk, markAt]
  generalize 68 + 7 * i = x
  cases o with
  | none => by_cases hzero : byteAt b x = 0 <;> simp [hzero]
  | some m =>
    obtain ⟨kind, x0, y0, x1, y1⟩ := m
    have hx0 := firstOf24_lt b (x + 1)
    have hy0 := secondOf24_lt b (x + 1)
    have hx1 := firstOf24_lt b (x + 4)
    have hy1 := secondOf24_lt b (x + 4)
    have hpoint : x + 1 + 3 = x + 4 := rfl
    simp only [markCodes_iff, numberAt_six_eq, hpoint, Option.some.injEq, forall_eq', markInRange, Bool.or_eq_true,
      Bool.and_eq_true, beq_iff_eq, decide_eq_true_eq]
    constructor
    · rintro ⟨⟨⟨hpos, hle, hkind⟩, hnumber⟩, hx, hy, hx', hy'⟩
      obtain ⟨rfl, rfl, rfl, rfl⟩ :=
        (digits_inj hy0 hx1 hy1 (by omega) (by omega) (by omega)).mp hnumber
      exact ⟨.inr ⟨⟨hle, hx⟩, hy⟩, by rw [if_neg (by omega), hkind]⟩
    · rintro ⟨hok, hmark⟩
      split at hmark
      · cases hmark
      · next hne =>
        obtain ⟨hkind, rfl, rfl, rfl, rfl⟩ := Mark.mk.inj (Option.some.inj hmark)
        obtain hzero | ⟨⟨hle, hx⟩, hy⟩ := hok
        · exact absurd hzero hne
        · exact ⟨⟨⟨by omega, hle, hkind⟩, rfl⟩, hx, hy, by omega, by omega⟩

/-- The seven bytes of a mark position spell it. -/
theorem markSpelled_of_bytes {o : Option Mark} {b : List Byte} {i : Nat}
    (hb : ∀ n, n < 7 → byteAt b (68 + 7 * i + n) = byteAt (markBytes o) n) (hgood : ∀ m, o = some m → markInRange m) :
    MarkSpelled o b i := by
  have hplace : 69 + 7 * i = 68 + 7 * i + 1 := by omega
  unfold MarkSpelled
  rw [hplace]
  generalize 68 + 7 * i = x at hb
  cases o with
  | none => exact hb 0 (by decide)
  | some m =>
    obtain ⟨hx01, hy01, hx1, hy1⟩ := hgood m rfl
    have hcode : markCode m.kind < 256 := by cases m.kind <;> decide
    have hkind : byteAt b x = markCode m.kind := (hb 0 (by decide)).trans (Nat.mod_eq_of_lt hcode)
    have h1 : byteAt b (x + 1) = m.x0 / 16 % 256 := hb 1 (by decide)
    have h2 : byteAt b (x + 1 + 1) = (16 * (m.x0 % 16) + m.y0 / 256) % 256 := hb 2 (by decide)
    have h3 : byteAt b (x + 1 + 2) = m.y0 % 256 := hb 3 (by decide)
    have h4 : byteAt b (x + 1 + 3) = m.x1 / 16 % 256 := hb 4 (by decide)
    have h5 : byteAt b (x + 1 + 4) = (16 * (m.x1 % 16) + m.y1 / 256) % 256 := hb 5 (by decide)
    have h6 : byteAt b (x + 1 + 5) = m.y1 % 256 := hb 6 (by decide)
    refine ⟨hkind ▸ markCodes_code m.kind, ?_⟩
    rw [numberAt_six, h1, h2, h3, h4, h5, h6]
    omega

/-! ### The page image by offset (R155) -/

theorem spelledBy_iff (x : Setup) (still : Bool) (first : Nat) (b : List Byte) :
    x.spelledBy still first b ↔
      (∀ n : Fin 8, (b.getD 0 0).getLsbD n.val = (presenceFlags x still).getD n.val false)
        ∧ (x.lock, byteAt b 1) ∈ lockCodes ∧ b.getD 2 0 = x.groups
        ∧ (x.rotation, byteAt b 3) ∈ [(Rotation.r0, 0), (.r90, 1), (.r180, 2), (.r270, 3)]
        ∧ (x.pageMode, byteAt b 4) ∈ modeCodes
        ∧ (∀ i : Fin 12, OverrideSpelled x.overrides[i] (halfAt b 5 i.val))
        ∧ labelSpelled x.label b 11 ∧ CornersSpelled x.corners b ∧ SignatureSpelled x.signature b
        ∧ numberAt b 60 2 = x.sigMask.toNat ∧ PresetSpelled x.preset b
        ∧ (∀ i : Fin 8, MarkSpelled x.marks[i] b i.val) ∧ byteAt b 124 = first
        ∧ numberAt b 128 2 = (crc16 (b.take 128)).toNat := Iff.rfl

theorem sigMask_iff (b : List Byte) (m : BitVec 16) :
    numberAt b 60 2 = m.toNat ↔ BitVec.ofNat 16 (wordAt b 60) = m := by
  rw [numberAt_two_eq_wordAt, ← BitVec.toNat_inj, BitVec.toNat_ofNat, Nat.mod_eq_of_lt (wordAt_lt b 60)]

theorem ofFn_eq_iff {α : Type} {n : Nat} (f : Fin n → α) (v : Vector α n) :
    Vector.ofFn f = v ↔ ∀ i : Fin n, f i = v[i] := by
  constructor
  · rintro rfl i
    simp
  · exact fun h => Vector.ext fun i hi => (Vector.getElem_ofFn hi).trans (h ⟨i, hi⟩)

theorem range_all_iff {n : Nat} (p : Nat → Bool) : ((List.range n).all p) = true ↔ ∀ i : Fin n, p i.val = true := by
  simp [Fin.forall_iff]

/-- A page image is sound when its check holds and each field is in range (R155). -/
theorem pageSound_iff (b : List Byte) :
    pageSound b = true ↔
      crcHolds b 128 = true ∧ byteAt b 0 < 64 ∧ byteAt b 1 ≤ 2 ∧ byteAt b 3 ≤ 3 ∧ byteAt b 4 ≤ 5
        ∧ (∀ i : Fin 12, halfAt b 5 i.val ≤ 5 ∨ halfAt b 5 i.val = 15) ∧ labelOk (slice b 11 25) = true
        ∧ (if flagged b 0 then (List.range 4).all fun n => !(pointAt b n).bad else zerosAt b 36 16) = true
        ∧ (flagged b 2 || zerosAt b 52 8) = true
        ∧ (if flagged b 4 then !(presetAt b).bad else zerosAt b 62 6) = true
        ∧ (∀ i : Fin 8, markOk b (68 + 7 * i.val) = true) ∧ byteAt b 124 ≤ 63 := by
  have hnibble : ∀ i : Fin 12, nibbleAt (slice b 5 6) i.val = halfAt b 5 i.val := fun i => nibbleAt_slice (by omega)
  rw [pageSound]
  simp only [Bool.and_eq_true, decide_eq_true_eq, range_all_iff, Bool.or_eq_true, beq_iff_eq, hnibble, and_assoc]
  rfl

/-- A page image reads as saved fields when each field does (R155). -/
theorem pageSetup_eq_iff (b : List Byte) (x : Setup) :
    pageSetup b = x ↔
      labelOf (slice b 11 25) = x.label ∧ Level.ofNum (byteAt b 1) = x.lock ∧ b.getD 2 0 = x.groups
        ∧ (if flagged b 0 then some (cornersAt b) else none) = x.corners ∧ rotationOf (byteAt b 3) = x.rotation
        ∧ flagged b 1 = x.mirror ∧ modeOf (byteAt b 4) = x.pageMode
        ∧ (∀ i : Fin 12, overrideOf (halfAt b 5 i.val) = x.overrides[i])
        ∧ (∀ i : Fin 8, markAt b (68 + 7 * i.val) = x.marks[i])
        ∧ (if flagged b 2 then some (signatureAt b) else none) = x.signature
        ∧ BitVec.ofNat 16 (wordAt b 60) = x.sigMask ∧ flagged b 3 = x.matchEnable
        ∧ (if flagged b 4 then some (presetAt b) else none) = x.preset := by
  have hnibble : ∀ i : Fin 12, nibbleAt (slice b 5 6) i.val = halfAt b 5 i.val := fun i => nibbleAt_slice (by omega)
  obtain ⟨label, lock, groups, corners, rotation, mirror, mode, overrides, marks, signature, mask, enable, preset⟩ := x
  simp only [pageSetup, Setup.mk.injEq, ofFn_eq_iff, hnibble]
  rfl

/-- Bytes of a page image spell values that R155 allows exactly when they are sound and read as those values. -/
theorem pageSpelled_iff {b : List Byte} (hb : b.length = 130) (x : Setup) (still : Bool) (first : Nat) :
    x.spelledBy still first b ∧ x.storable ∧ first ≤ 63 ↔
      pageSound b = true ∧ pageSetup b = x ∧ flagged b 5 = still ∧ byteAt b 124 = first := by
  have hcrc := crcHolds_iff (b := b) (n := 128) (by omega)
  have hlabel := labelSpelled_iff (label := x.label) (b := b) (x := 11) (by omega)
  have hcorners := cornersSpelled_iff x.corners b
  have hsignature := signatureSpelled_iff x.signature b
  have hpreset := presetSpelled_iff x.preset b
  have hmarks := fun i : Fin 8 => markSpelled_iff x.marks[i] b i.val
  rw [spelledBy_iff, presence_iff, lockCodes_iff, rotationCodes_iff, modeCodes_iff, sigMask_iff, ← hcrc, pageSound_iff,
    pageSetup_eq_iff, Setup.storable]
  simp only [overrideSpelled_iff, not_badLabel_iff]
  constructor
  · rintro ⟨⟨⟨hspare, hf0, hmirror, hf2, henable, hf4, hstill⟩, ⟨hlock, hlock'⟩, hgroups, ⟨hrotation, hrotation'⟩,
      ⟨hmode, hmode'⟩, hoverrides, hlabelSpelled, hcornersSpelled, hsignatureSpelled, hmask, hpresetSpelled,
      hmarkSpelled, hfirst, hcheck⟩, ⟨hlabelGood, hcornersGood, hpresetGood, hmarksGood⟩, hfirstGood⟩
    obtain ⟨hlabelOk, hlabelOf⟩ := hlabel.mp ⟨hlabelSpelled, hlabelGood⟩
    obtain ⟨hcornersOk, hcornersOf⟩ := hcorners.mp ⟨hf0, hcornersSpelled, hcornersGood⟩
    obtain ⟨hsignatureOk, hsignatureOf⟩ := hsignature.mp ⟨hf2, hsignatureSpelled⟩
    obtain ⟨hpresetOk, hpresetOf⟩ := hpreset.mp ⟨hf4, hpresetSpelled, hpresetGood⟩
    have hmark := fun i => (hmarks i).mp ⟨hmarkSpelled i, hmarksGood i⟩
    exact ⟨⟨hcheck, hspare, hlock, hrotation, hmode, fun i => (hoverrides i).1, hlabelOk, hcornersOk, hsignatureOk,
        hpresetOk, fun i => (hmark i).1, hfirst ▸ hfirstGood⟩,
      ⟨hlabelOf, hlock', hgroups, hcornersOf, hrotation', hmirror, hmode', fun i => (hoverrides i).2,
        fun i => (hmark i).2, hsignatureOf, hmask, henable, hpresetOf⟩, hstill, hfirst⟩
  · rintro ⟨⟨hcheck, hspare, hlock, hrotation, hmode, hoverrides, hlabelOk, hcornersOk, hsignatureOk, hpresetOk,
        hmarkOk, hfirstGood⟩,
      ⟨hlabelOf, hlock', hgroups, hcornersOf, hrotation', hmirror, hmode', hoverrides', hmarkAt, hsignatureOf, hmask,
        henable, hpresetOf⟩, hstill, hfirst⟩
    obtain ⟨hlabelSpelled, hlabelGood⟩ := hlabel.mpr ⟨hlabelOk, hlabelOf⟩
    obtain ⟨hf0, hcornersSpelled, hcornersGood⟩ := hcorners.mpr ⟨hcornersOk, hcornersOf⟩
    obtain ⟨hf2, hsignatureSpelled⟩ := hsignature.mpr ⟨hsignatureOk, hsignatureOf⟩
    obtain ⟨hf4, hpresetSpelled, hpresetGood⟩ := hpreset.mpr ⟨hpresetOk, hpresetOf⟩
    have hmark := fun i => (hmarks i).mpr ⟨hmarkOk i, hmarkAt i⟩
    exact ⟨⟨⟨hspare, hf0, hmirror, hf2, henable, hf4, hstill⟩, ⟨hlock, hlock'⟩, hgroups, ⟨hrotation, hrotation'⟩,
        ⟨hmode, hmode'⟩, fun i => ⟨hoverrides i, hoverrides' i⟩, hlabelSpelled, hcornersSpelled, hsignatureSpelled,
        hmask, hpresetSpelled, fun i => (hmark i).1, hfirst, hcheck⟩,
      ⟨hlabelGood, hcornersGood, hpresetGood, fun i => (hmark i).2⟩, hfirst ▸ hfirstGood⟩

/-! ### The page image written (R155) -/

theorem overrideCode_lt (o : Option PageMode) : overrideCode o < 16 := by
  rcases o with _ | m
  · decide
  · cases m <;> decide

/-- The parts of a page image, in order. -/
def pageParts (x : Setup) (still : Bool) (first : Nat) : List (List Byte) :=
  [[byteOf (presence x still), byteOf x.lock.rank, x.groups, byteOf (rotationCode x.rotation),
      byteOf (modeCode x.pageMode)],
    packNibbles (x.overrides.toList.map overrideCode), labelBytes x.label, cornerBytes x.corners,
    signatureBytes x.signature, be16 x.sigMask.toNat, presetBytes x.preset, x.marks.toList.flatMap markBytes,
    [byteOf first], List.replicate 3 0, crcBytes (pageCore x still first)]

theorem pageBytes_eq_flatten (x : Setup) (still : Bool) (first : Nat) :
    pageBytes x still first = (pageParts x still first).flatten := by
  simp only [pageBytes, pageCore, pageParts, List.flatten_cons, List.flatten_nil, List.append_assoc, List.append_nil]

section
variable {x : Setup} (hx : ∀ t, x.label = some t → t.length ≤ 24) (still : Bool) (first : Nat)
include hx

theorem pageParts_lengths : (pageParts x still first).map List.length = [5, 6, 25, 16, 8, 2, 6, 56, 1, 3, 2] := by
  simp [pageParts, packNibbles_length, labelBytes_length hx, cornerBytes_length, signatureBytes_length,
    presetBytes_length, markBytes_length, be16, crcBytes_length]

/-- The bytes of part k of a page image stand at the offset of the part. -/
theorem byteAt_pageBytes {k off n : Nat} {part : List Byte} (hk : (pageParts x still first)[k]? = some part)
    (hoff : ([5, 6, 25, 16, 8, 2, 6, 56, 1, 3, 2].take k).sum = off) (hn : n < part.length) :
    byteAt (pageBytes x still first) (off + n) = byteAt part n := by
  have h := byteAt_flatten (pageParts x still first) hk hn
  rwa [pageParts_lengths hx, hoff, ← pageBytes_eq_flatten] at h

/-- The label field of a page image spells the label. -/
theorem pageBytes_label : labelSpelled x.label (pageBytes x still first) 11 :=
  byteAt_labelBytes hx fun n hn => byteAt_pageBytes hx still first (k := 2) rfl rfl (by rwa [labelBytes_length hx])

theorem pageBytes_overrides (i : Fin 12) :
    OverrideSpelled x.overrides[i] (halfAt (pageBytes x still first) 5 i.val) := by
  have hhalf : halfAt (pageBytes x still first) 5 i.val = overrideCode x.overrides[i] := by
    rw [halfAt_of_bytes (p := packNibbles (x.overrides.toList.map overrideCode)) (n := i.val)
      fun m hm => byteAt_pageBytes hx still first (k := 1) (off := 5) rfl rfl hm]
    · rw [halfAt_packNibbles _ (by simp)]
      have hnth : (x.overrides.toList.map overrideCode).getD i.val 0 = overrideCode x.overrides[i] := by
        rw [List.getD_eq_getElem _ _ (by simp)]
        simp
      rw [hnth, Nat.mod_eq_of_lt (overrideCode_lt _)]
    · rw [packNibbles_length]
      simp
      omega
  rw [hhalf]
  exact overrideSpelled_code _

theorem pageBytes_corners (hgood : ∀ c, x.corners = some c → c.bad = false) :
    CornersSpelled x.corners (pageBytes x still first) := by
  have hb : ∀ n, n < 16 → byteAt (pageBytes x still first) (36 + n) = byteAt (cornerBytes x.corners) n := fun n hn =>
    byteAt_pageBytes hx still first (k := 3) rfl rfl (by rwa [cornerBytes_length])
  generalize pageBytes x still first = b at hb
  cases hc : x.corners with
  | none => exact fun n hn => by rw [hb n hn, hc]; exact byteAt_zeros 16 n
  | some c =>
    have hc' := hgood c hc
    rw [hc] at hb
    simp only [Corners.bad, Point.bad, Bool.or_eq_false_iff, decide_eq_false_iff_not, Nat.not_lt] at hc'
    obtain ⟨⟨⟨⟨htlx, htly⟩, htrx, htry⟩, hbrx, hbry⟩, hblx, hbly⟩ := hc'
    simp only [CornersSpelled, List.forall_mem_cons]
    exact ⟨⟨numberAt_of_be16 (hb 0 (by decide)) (hb 1 (by decide)) (by omega),
        numberAt_of_be16 (hb 2 (by decide)) (hb 3 (by decide)) (by omega)⟩,
      ⟨numberAt_of_be16 (hb 4 (by decide)) (hb 5 (by decide)) (by omega),
        numberAt_of_be16 (hb 6 (by decide)) (hb 7 (by decide)) (by omega)⟩,
      ⟨numberAt_of_be16 (hb 8 (by decide)) (hb 9 (by decide)) (by omega),
        numberAt_of_be16 (hb 10 (by decide)) (hb 11 (by decide)) (by omega)⟩,
      ⟨numberAt_of_be16 (hb 12 (by decide)) (hb 13 (by decide)) (by omega),
        numberAt_of_be16 (hb 14 (by decide)) (hb 15 (by decide)) (by omega)⟩, nofun⟩

theorem pageBytes_signature : SignatureSpelled x.signature (pageBytes x still first) := by
  have hb : ∀ n, n < 8 → byteAt (pageBytes x still first) (52 + n) = byteAt (signatureBytes x.signature) n :=
    fun n hn => byteAt_pageBytes hx still first (k := 4) rfl rfl (by rwa [signatureBytes_length])
  generalize pageBytes x still first = b at hb
  cases hg : x.signature with
  | none => exact fun n hn => by rw [hb n hn, hg]; exact byteAt_zeros 8 n
  | some g =>
    rw [hg] at hb
    intro n
    have hlen : (packNibbles (g.toList.map BitVec.toNat)).length = 8 := by simp [packNibbles_length]
    rw [halfAt_of_bytes (p := packNibbles (g.toList.map BitVec.toNat)) (n := n.val) (fun m hm => hb m (hlen ▸ hm))
      (by omega), halfAt_packNibbles _ (by simp), List.getD_eq_getElem _ _ (by simp)]
    have hlt := g[n].isLt
    simp only [List.getElem_map, Vector.getElem_toList]
    exact Nat.mod_eq_of_lt hlt

theorem pageBytes_preset (hgood : ∀ p, x.preset = some p → p.bad = false) :
    PresetSpelled x.preset (pageBytes x still first) := by
  have hb : ∀ n, n < 6 → byteAt (pageBytes x still first) (62 + n) = byteAt (presetBytes x.preset) n := fun n hn =>
    byteAt_pageBytes hx still first (k := 6) rfl rfl (by rwa [presetBytes_length])
  generalize pageBytes x still first = b at hb
  cases hp : x.preset with
  | none => exact fun n hn => by rw [hb n hn, hp]; exact byteAt_zeros 6 n
  | some p =>
    have hp' := hgood p hp
    rw [hp] at hb
    simp only [Preset.bad, badZoom, badCoord, Bool.or_eq_false_iff, decide_eq_false_iff_not, Nat.not_lt] at hp'
    obtain ⟨⟨⟨-, hzoom⟩, hpx⟩, hpy⟩ := hp'
    exact ⟨numberAt_of_be16 (hb 0 (by decide)) (hb 1 (by decide)) (by omega),
      numberAt_of_be16 (hb 2 (by decide)) (hb 3 (by decide)) (by omega),
      numberAt_of_be16 (hb 4 (by decide)) (hb 5 (by decide)) (by omega)⟩

/-- The bytes of mark position i stand at its offset. -/
theorem byteAt_pageBytes_mark {i : Fin 8} {o : Option Mark} (ho : x.marks[i] = o) {n : Nat} (hn : n < 7) :
    byteAt (pageBytes x still first) (68 + 7 * i.val + n) = byteAt (markBytes o) n := by
  have hpart := byteAt_flatMap markBytes markBytes_length x.marks.toList (i := i.val) (n := n) (by simp) hn
  rw [Nat.add_assoc, byteAt_pageBytes hx still first (k := 7) (off := 68) rfl rfl, hpart, ← ho]
  · simp
  · rw [flatMap_markBytes_length, Vector.length_toList]
    omega

theorem pageBytes_mark (i : Fin 8) (hgood : ∀ m, x.marks[i] = some m → markInRange m) :
    MarkSpelled x.marks[i] (pageBytes x still first) i.val :=
  markSpelled_of_bytes (fun _ hn => byteAt_pageBytes_mark hx still first rfl hn) hgood

end

/-- A page image spells the values it was made from (R155). -/
theorem pageBytes_spelledBy {x : Setup} (h : x.storable) (still : Bool) {first : Nat} (hfirst : first ≤ 63) :
    x.spelledBy still first (pageBytes x still first) := by
  obtain ⟨hlabel, hcorners, hpreset, hmarks⟩ := h
  have hx : ∀ t, x.label = some t → t.length ≤ 24 := fun t ht => ((not_badLabel_iff t).mp (hlabel t ht)).2.1
  have hmask : ∀ n, n < 2 → byteAt (pageBytes x still first) (60 + n) = byteAt (be16 x.sigMask.toNat) n := fun n hn =>
    byteAt_pageBytes hx still first (k := 5) rfl rfl hn
  have hplace : byteAt (pageBytes x still first) (124 + 0) = first % 256 :=
    byteAt_pageBytes hx still first (k := 8) rfl rfl Nat.one_pos
  have hlen := pageBytes_length hx still first
  refine (spelledBy_iff x still first _).mpr ⟨presence_bits x still, ?lock, rfl, ?rotation, ?mode,
    pageBytes_overrides hx still first, pageBytes_label hx still first, pageBytes_corners hx still first hcorners,
    pageBytes_signature hx still first, numberAt_of_be16 (hmask 0 (by decide)) (hmask 1 (by decide)) x.sigMask.isLt,
    pageBytes_preset hx still first hpreset, fun i => pageBytes_mark hx still first i (hmarks i), ?first,
    (crcHolds_iff (by omega)).mp (pageBytes_crcHolds hx still first)⟩
  case lock =>
    have hlock : byteAt (pageBytes x still first) 1 = x.lock.rank % 256 := rfl
    rw [hlock, Nat.mod_eq_of_lt (by have := rank_le_two x.lock; omega)]
    exact lockCodes_rank x.lock
  case rotation =>
    have hrotation : byteAt (pageBytes x still first) 3 = rotationCode x.rotation % 256 := rfl
    rw [hrotation, Nat.mod_eq_of_lt (by cases x.rotation <;> decide)]
    exact rotationCodes_code x.rotation
  case mode =>
    have hmode : byteAt (pageBytes x still first) 4 = modeCode x.pageMode % 256 := rfl
    rw [hmode, Nat.mod_eq_of_lt (by cases x.pageMode <;> decide)]
    exact modeCodes_code x.pageMode
  case first => exact hplace.trans (Nat.mod_eq_of_lt (by omega))

/-! ### The statements -/

theorem pageImageLayout : Says.PageImageLayout := by
  refine ⟨fun x still first h hfirst => ?written, fun b hb => ⟨fun x still first h hfirst => ?_, fun hsound => ?_⟩⟩
  case written =>
    have hx : ∀ t, x.label = some t → t.length ≤ 24 := fun t ht => ((not_badLabel_iff t).mp (h.1 t ht)).2.1
    refine ⟨pageBytes_length hx still first, pageBytes_spelledBy h still hfirst, fun n hn => ?_, fun i hi n hn => ?_⟩
    · exact (byteAt_pageBytes hx still first (k := 9) rfl rfl hn).trans (byteAt_zeros 3 n)
    · exact (byteAt_pageBytes_mark hx still first hi hn).trans (byteAt_zeros 7 n)
  · rw [← pageSpelled_iff hb]
    exact ⟨fun hspelled => ⟨hspelled, h, hfirst⟩, fun ⟨hspelled, _⟩ => hspelled⟩
  · exact ((pageSpelled_iff hb (pageSetup b) _ _).mpr ⟨hsound, rfl, rfl, rfl⟩).2

theorem pageImageReadsBack : Says.PageImageReadsBack := by
  intro a k x still first ha h hfirst
  have hx : ∀ t, x.label = some t → t.length ≤ 24 := fun t ht => ((not_badLabel_iff t).mp (h.1 t ht)).2.1
  obtain ⟨hsound, hread⟩ := (pageSpelled_iff (pageBytes_length hx still first) x still first).mp
    ⟨pageBytes_spelledBy h still hfirst, h, hfirst⟩
  refine ⟨fun hk => ?_, fun hk => readPage_eq_none (.inr (.inl (Area.read_picture _ _ _ (by decide) hk))), hread⟩
  rw [Area.readPage_writePage ha hk hx, if_pos hsound]

/-- Settles O47: the image written spells its values part by part, and bytes spell values that R155 allows exactly when
they are sound and read as those values, field by field. -/
theorem pageImageRoundTrip : Obligations.PageImageRoundTrip := ⟨pageImageReadsBack, pageImageLayout⟩

end Sys2Proof.Machine.FlashLaws
end

section
/-! SUPPORT. The header: its directory, its layout by offset, and its round trip (R154 to R156). -/

namespace Sys2Proof.Machine.FlashLaws

open LessonLaws

/-! ### Directory entries (R155) -/

/-- The two bytes of a directory entry. -/
def DirSpelled (o : Option DirEntry) (b0 b1 : Nat) : Prop :=
  match o with
  | none => b0 = 0
  | some e => b0 = e.blocks ∧ b1 % 16 = e.light.val ∧ (e.kind, b1 / 16 % 2) ∈ [(StillKind.page, 0), (.composed, 1)]

theorem kindCodes_iff (k : StillKind) (n : Nat) :
    (k, n % 2) ∈ [(StillKind.page, 0), (.composed, 1)] ↔ (if n % 2 = 1 then StillKind.composed else .page) = k := by
  rcases Nat.mod_two_eq_zero_or_one n with h | h <;> cases k <;> simp [h]

theorem kindCodes_bit (k : StillKind) : (k, kindBit k / 16) ∈ [(StillKind.page, 0), (.composed, 1)] := by
  cases k <;> decide

theorem dirSpelled_iff (o : Option DirEntry) (b0 b1 : Nat) :
    (DirSpelled o b0 b1 ∧ ∀ e, o = some e → 1 ≤ e.blocks ∧ e.blocks ≤ 12) ↔ b0 ≤ 12 ∧ dirOf b0 b1 = o := by
  unfold DirSpelled dirOf
  cases o with
  | none => by_cases hzero : b0 = 0 <;> simp [hzero]
  | some e =>
    obtain ⟨blocks, kind, light⟩ := e
    have hlight : Fin.ofNat 16 b1 = light ↔ b1 % 16 = light.val := Fin.ext_iff
    simp only [kindCodes_iff, Option.some.injEq, forall_eq']
    constructor
    · rintro ⟨⟨rfl, hlow, hkind⟩, hpos, hle⟩
      rw [if_neg (by omega), hkind, hlight.mpr hlow]
      exact ⟨hle, rfl⟩
    · rintro ⟨hle, hentry⟩
      split at hentry
      · cases hentry
      · next hne =>
        obtain ⟨rfl, hkind, hlow⟩ := DirEntry.mk.inj (Option.some.inj hentry)
        exact ⟨⟨rfl, hlight.mp hlow, hkind⟩, Nat.pos_of_ne_zero hne, hle⟩

/-- A directory entry is written as its two bytes. -/
theorem dirSpelled_of_bytes {o : Option DirEntry} {b0 b1 : Nat} (h0 : b0 = byteAt (dirBytes o) 0)
    (h1 : b1 = byteAt (dirBytes o) 1) (hgood : ∀ e, o = some e → 1 ≤ e.blocks ∧ e.blocks ≤ 12) :
    DirSpelled o b0 b1 := by
  cases o with
  | none => exact h0
  | some e =>
    have hblocks := (hgood e rfl).2
    have hlight := e.light.isLt
    have hkind : kindBit e.kind = 0 ∨ kindBit e.kind = 16 := by cases e.kind <;> simp [kindBit]
    simp only [dirBytes, byteAt_cons_zero, byteAt_cons_succ, byteOf_toNat] at h0 h1
    have hbit : b1 / 16 % 2 = kindBit e.kind / 16 := by rcases hkind with h | h <;> rw [h1, h] <;> omega
    exact ⟨by omega, by omega, hbit ▸ kindCodes_bit e.kind⟩

theorem dirBytes_second_lt (o : Option DirEntry) : byteAt (dirBytes o) 1 < 32 := by
  cases o with
  | none => decide
  | some e =>
    have hlight := e.light.isLt
    simp only [dirBytes, byteAt_cons_zero, byteAt_cons_succ, byteOf_toNat]
    cases e.kind <;> simp only [kindBit] <;> omega

theorem dirRead_length (b : List Byte) : (dirRead b).length = 32 := by simp [dirRead]

theorem dirRead_getD (b : List Byte) {k : Nat} (hk : k < 32) :
    (dirRead b).getD k none = dirOf (byteAt b (32 + 2 * k)) (byteAt b (33 + 2 * k)) := by
  rw [List.getD_eq_getElem _ _ (by rwa [dirRead_length])]
  simp [dirRead]

theorem dirRead_eq {b : List Byte} {d : List (Option DirEntry)} (hd : d.length = 32)
    (h : ∀ k, k < 32 → dirOf (byteAt b (32 + 2 * k)) (byteAt b (33 + 2 * k)) = d.getD k none) : dirRead b = d :=
  List.ext_getElem ((dirRead_length b).trans hd.symm) fun k hk hk' => by
    rw [← List.getD_eq_getElem _ none hk, ← List.getD_eq_getElem _ none hk',
      dirRead_getD b (dirRead_length b ▸ hk), h k (dirRead_length b ▸ hk)]

/-- The entries of a list of 32, place by place. -/
theorem mem_iff_getD {d : List (Option DirEntry)} (hd : d.length = 32) (e : DirEntry) :
    some e ∈ d ↔ ∃ k, k < 32 ∧ d.getD k none = some e := by
  rw [List.mem_iff_getElem]
  constructor
  · rintro ⟨k, hk, he⟩
    exact ⟨k, hd ▸ hk, (List.getD_eq_getElem _ _ hk).trans he⟩
  · rintro ⟨k, hk, he⟩
    have hk' : k < d.length := hd.symm ▸ hk
    exact ⟨k, hk', (List.getD_eq_getElem _ none hk').symm.trans he⟩

/-! ### The header by offset (R155) -/

theorem headerSpelledBy_iff (h : HeaderVals) (l : Fin 8) (b : List Byte) :
    h.spelledBy l b ↔
      byteAt b 0 = 1 ∧ byteAt b 1 = l.val + 1 ∧ byteAt b 2 = h.pages ∧ byteAt b 3 = h.stills ∧ byteAt b 4 = h.blocks
        ∧ (h.lock, byteAt b 5) ∈ lockCodes ∧ labelSpelled h.label b 6
        ∧ (∀ k, k < 32 → DirSpelled (h.dir.getD k none) (byteAt b (32 + 2 * k)) (byteAt b (33 + 2 * k)))
        ∧ numberAt b 96 2 = (crc16 (b.take 96)).toNat := by
  have hfirst : ∀ k, 32 + 2 * k = 36 + 2 * k - 4 := fun k => by omega
  have hsecond : ∀ k, 33 + 2 * k = 37 + 2 * k - 4 := fun k => by omega
  simp only [hfirst, hsecond]
  exact Iff.rfl

/-- A header is sound when its check holds, each field is in range, and its counts are those of its directory (R155). -/
theorem headerSound_iff (l : Fin 8) (b : List Byte) :
    headerSound l b = true ↔
      crcHolds b 96 = true ∧ byteAt b 0 = 1 ∧ byteAt b 1 = l.val + 1 ∧ byteAt b 2 ≤ 32 ∧ byteAt b 5 ≤ 2
        ∧ labelOk (slice b 6 25) = true
        ∧ (∀ k, k < 32 → byteAt b (32 + 2 * k) ≤ 12 ∧ (k < byteAt b 2 ∨ byteAt b (32 + 2 * k) = 0))
        ∧ byteAt b 3 = (dirRead b).countP Option.isSome ∧ byteAt b 4 = ((dirRead b).map dirBlocks).sum
        ∧ byteAt b 4 ≤ 64 := by
  simp only [headerSound, Bool.and_eq_true, decide_eq_true_eq, beq_iff_eq, Bool.or_eq_true, List.all_eq_true,
    List.mem_range, List.countP_eq_length_filter, and_assoc]

theorem headerVals_eq_iff (b : List Byte) (h : HeaderVals) :
    headerVals b = h ↔
      byteAt b 2 = h.pages ∧ byteAt b 3 = h.stills ∧ byteAt b 4 = h.blocks ∧ Level.ofNum (byteAt b 5) = h.lock
        ∧ labelOf (slice b 6 25) = h.label ∧ dirRead b = h.dir := by
  obtain ⟨pages, stills, blocks, lock, label, dir⟩ := h
  simp only [headerVals, HeaderVals.mk.injEq]

/-- Bytes of a header spell values that R155 allows exactly when they are sound and read as those values. -/
theorem headerSpelled_iff {b : List Byte} (hb : b.length = 98) (l : Fin 8) (h : HeaderVals) :
    h.spelledBy l b ∧ h.storable ↔ headerSound l b = true ∧ headerVals b = h := by
  have hcrc := crcHolds_iff (b := b) (n := 96) (by omega)
  have hlabel := labelSpelled_iff (label := h.label) (b := b) (x := 6) (by omega)
  have hentry := fun k => dirSpelled_iff (h.dir.getD k none) (byteAt b (32 + 2 * k)) (byteAt b (33 + 2 * k))
  rw [headerSpelledBy_iff, lockCodes_iff, ← hcrc, headerSound_iff, headerVals_eq_iff, HeaderVals.storable,
    HeaderVals.sums]
  constructor
  · rintro ⟨⟨hversion, hlesson, hpages, hstills, hblocks, ⟨hlock, hlock'⟩, hlabelSpelled, hdir, hcheck⟩,
      ⟨hpagesGood, hlen, hnone, hcount, hsum⟩, hlabelGood, hblocksGood, hentries⟩
    obtain ⟨hlabelOk, hlabelOf⟩ := hlabel.mp ⟨hlabelSpelled, hlabelGood⟩
    have hread := fun k hk => (hentry k).mp
      ⟨hdir k hk, fun e he => hentries e ((mem_iff_getD hlen e).mpr ⟨k, hk, he⟩)⟩
    have hdirRead : dirRead b = h.dir := dirRead_eq hlen fun k hk => (hread k hk).2
    have hempty : ∀ k, k < 32 → h.pages ≤ k → byteAt b (32 + 2 * k) = 0 := fun k hk hle => by
      have hspelled := hdir k hk
      rwa [hnone k hle] at hspelled
    rw [hdirRead, hpages, hstills, hblocks]
    exact ⟨⟨hcheck, hversion, hlesson, hpagesGood, hlock, hlabelOk,
        fun k hk => ⟨(hread k hk).1, (Nat.lt_or_ge k h.pages).imp_right (hempty k hk)⟩, hcount, hsum, hblocksGood⟩,
      rfl, rfl, rfl, hlock', hlabelOf, rfl⟩
  · rintro ⟨⟨hcheck, hversion, hlesson, hpagesGood, hlock, hlabelOk, hdir, hcount, hsum, hblocksGood⟩, hpages, hstills,
      hblocks, hlock', hlabelOf, hdirRead⟩
    obtain ⟨hlabelSpelled, hlabelGood⟩ := hlabel.mpr ⟨hlabelOk, hlabelOf⟩
    have hlen : h.dir.length = 32 := hdirRead ▸ dirRead_length b
    have hread : ∀ k, k < 32 → dirOf (byteAt b (32 + 2 * k)) (byteAt b (33 + 2 * k)) = h.dir.getD k none :=
      fun k hk => by rw [← hdirRead, dirRead_getD b hk]
    have hspelled := fun k hk => (hentry k).mpr ⟨(hdir k hk).1, hread k hk⟩
    rw [hdirRead] at hcount hsum
    rw [hpages] at hpagesGood
    rw [hblocks] at hblocksGood
    refine ⟨⟨hversion, hlesson, hpages, hstills, hblocks, ⟨hlock, hlock'⟩, hlabelSpelled, fun k hk => (hspelled k hk).1,
      hcheck⟩, ⟨hpagesGood, hlen, fun k hle => ?_, hstills.symm.trans hcount, hblocks.symm.trans hsum⟩, hlabelGood,
      hblocksGood, fun e he => ?_⟩
    · by_cases hk : k < 32
      · have hzero : byteAt b (32 + 2 * k) = 0 :=
          (hdir k hk).2.resolve_left fun hlt => Nat.not_lt.mpr hle (hpages ▸ hlt)
        rw [← hread k hk, dirOf, if_pos hzero]
      · exact List.getD_eq_default _ _ (by omega)
    · obtain ⟨k, hk, hke⟩ := (mem_iff_getD hlen e).mp he
      exact (hspelled k hk).2 e hke

/-! ### The header written (R155) -/

/-- The parts of a header and of what follows it, in order. -/
def headerParts (l : Fin 8) (h : HeaderVals) (tail : List Byte) : List (List Byte) :=
  [[1, byteOf (l.val + 1), byteOf h.pages, byteOf h.stills, byteOf h.blocks, byteOf h.lock.rank], labelBytes h.label,
    [0], h.dir.flatMap dirBytes, crcBytes (headerCore l h), tail]

/-- The fields of a header with their check, and what follows. -/
def headerWith (l : Fin 8) (h : HeaderVals) (tail : List Byte) : List Byte :=
  headerCore l h ++ crcBytes (headerCore l h) ++ tail

theorem headerWith_eq_flatten (l : Fin 8) (h : HeaderVals) (tail : List Byte) :
    headerWith l h tail = (headerParts l h tail).flatten := by
  simp only [headerWith, headerCore, headerParts, List.flatten_cons, List.flatten_nil, List.append_assoc,
    List.append_nil]

theorem headerWith_zeros (l : Fin 8) (h : HeaderVals) : headerWith l h (List.replicate 26 0) = headerBytes l h := rfl

theorem label_length_le {h : HeaderVals} (hh : h.storable) : ∀ t, h.label = some t → t.length ≤ 24 := fun t ht =>
  (hh.2.1 t ht).2.1

section
variable {h : HeaderVals} (hh : h.storable) (l : Fin 8) (tail : List Byte)
include hh

theorem headerParts_lengths : (headerParts l h tail).map List.length = [6, 25, 1, 64, 2, tail.length] := by
  obtain ⟨⟨-, hlen, -⟩, -⟩ := id hh
  simp only [headerParts, List.map_cons, List.map_nil, labelBytes_length (label_length_le hh), flatMap_dirBytes_length,
    hlen, crcBytes_length, List.length_cons, List.length_nil]

/-- The bytes of part k of a header stand at the offset of the part. -/
theorem byteAt_headerWith {k off n : Nat} {part : List Byte} (hk : (headerParts l h tail)[k]? = some part)
    (hoff : ([6, 25, 1, 64, 2, tail.length].take k).sum = off) (hn : n < part.length) :
    byteAt (headerWith l h tail) (off + n) = byteAt part n := by
  have hpart := byteAt_flatten (headerParts l h tail) hk hn
  rwa [headerParts_lengths hh, hoff, ← headerWith_eq_flatten] at hpart

/-- The bytes of directory entry k stand at its offset. -/
theorem byteAt_headerWith_dir {k n : Nat} (hk : k < 32) (hn : n < 2) :
    byteAt (headerWith l h tail) (32 + n + 2 * k) = byteAt (dirBytes (h.dir.getD k none)) n := by
  obtain ⟨⟨-, hlen, -⟩, -⟩ := id hh
  have hplace : 32 + n + 2 * k = 32 + (2 * k + n) := by omega
  have hk' : k < h.dir.length := hlen.symm ▸ hk
  rw [hplace, byteAt_headerWith hh l tail (k := 3) (off := 32) rfl rfl,
    byteAt_flatMap dirBytes dirBytes_length _ hk' hn, List.getD_eq_getElem _ _ hk']
  rw [flatMap_dirBytes_length, hlen]
  omega

/-- A header spells the values it was made from (R155). -/
theorem headerWith_spelledBy : h.spelledBy l (headerWith l h tail) := by
  obtain ⟨⟨hpages, hlen, -, hstills, -⟩, -, hblocks, hentries⟩ := id hh
  have hcount : h.stills ≤ 32 := hstills ▸ hlen ▸ List.countP_le_length
  have hlesson := l.isLt
  have hrank := rank_le_two h.lock
  have hhead : ∀ n, n < 6 → byteAt (headerWith l h tail) (0 + n) =
      byteAt [1, byteOf (l.val + 1), byteOf h.pages, byteOf h.stills, byteOf h.blocks, byteOf h.lock.rank] n :=
    fun n hn => byteAt_headerWith hh l tail (k := 0) rfl rfl hn
  have hcrc := crcHolds_append (headerCore_length l (label_length_le hh) hlen) tail
  have hlength : 96 + 2 ≤ (headerWith l h tail).length := by
    rw [headerWith, List.length_append, List.length_append, headerCore_length l (label_length_le hh) hlen,
      crcBytes_length]
    exact Nat.le_add_right _ _
  refine (headerSpelledBy_iff h l _).mpr ⟨hhead 0 (by decide),
    (hhead 1 (by decide)).trans (Nat.mod_eq_of_lt (by omega)),
    (hhead 2 (by decide)).trans (Nat.mod_eq_of_lt (by omega)),
    (hhead 3 (by decide)).trans (Nat.mod_eq_of_lt (by omega)),
    (hhead 4 (by decide)).trans (Nat.mod_eq_of_lt (by omega)), ?lock,
    byteAt_labelBytes (label_length_le hh) fun n hn => byteAt_headerWith hh l tail (k := 1) rfl rfl (by
      rwa [labelBytes_length (label_length_le hh)]),
    fun k hk => dirSpelled_of_bytes (byteAt_headerWith_dir hh l tail hk (n := 0) (by decide))
      (byteAt_headerWith_dir hh l tail hk (n := 1) (by decide)) fun e he =>
        hentries e ((mem_iff_getD hlen e).mpr ⟨k, hk, he⟩), (crcHolds_iff hlength).mp hcrc⟩
  case lock =>
    have hlock : byteAt (headerWith l h tail) 5 = h.lock.rank :=
      (hhead 5 (by decide)).trans (Nat.mod_eq_of_lt (by omega))
    exact hlock ▸ lockCodes_rank h.lock

end

/-! ### The statements -/

theorem headerLayout : Says.HeaderLayout := by
  refine fun l => ⟨fun h hh => ?written, fun b hb => ⟨fun h hh => ?_, fun hsound => ?_⟩⟩
  case written =>
    obtain ⟨⟨-, hlen, -⟩, -⟩ := id hh
    rw [← headerWith_zeros]
    refine ⟨headerBytes_length l (label_length_le hh) hlen, headerWith_spelledBy hh l _,
      byteAt_headerWith hh l _ (k := 2) (n := 0) rfl rfl Nat.one_pos, fun x hx hx' => ?_, fun k hk => ?_⟩
    · have hplace : x - 4 = 98 + (x - 102) := by omega
      rw [hplace, byteAt_headerWith hh l _ (k := 5) (off := 98) rfl rfl (by rw [List.length_replicate]; omega)]
      exact byteAt_zeros 26 _
    · have hplace : 37 + 2 * k - 4 = 32 + 1 + 2 * k := by omega
      rw [hplace, byteAt_headerWith_dir hh l _ hk (by decide)]
      exact ⟨dirBytes_second_lt _, fun hnone => by rw [hnone]; rfl⟩
  · rw [← headerSpelled_iff hb]
    exact ⟨fun hspelled => ⟨hspelled, hh⟩, fun ⟨hspelled, _⟩ => hspelled⟩
  · exact ((headerSpelled_iff hb l (headerVals b)).mpr ⟨hsound, rfl⟩).2

theorem headerReadsBack : Says.HeaderReadsBack := by
  intro a l h ha hh
  obtain ⟨⟨-, hlen, -⟩, -⟩ := id hh
  have hlabel := label_length_le hh
  have hlength : (headerCore l h ++ crcBytes (headerCore l h)).length = 98 := by
    simp [headerCore_length l hlabel hlen, crcBytes_length]
  have hspelled : h.spelledBy l (headerCore l h ++ crcBytes (headerCore l h)) := by
    have hwith := headerWith_spelledBy hh l []
    rwa [headerWith, List.append_nil] at hwith
  obtain ⟨hsound, hvals⟩ := (headerSpelled_iff hlength l h).mp ⟨hspelled, hh⟩
  have hread : (a.writeHeader l h).read 4 98 = some (headerCore l h ++ crcBytes (headerCore l h)) := by
    rw [Area.read_eq _ _ _ (by decide), a.writeHeader_readBytes l hlabel hlen, headerBytes_take l hlabel hlen]
  have hanswers : (a.writeHeader l h).answers = true := ha
  constructor
  · simp only [Area.readHeader, hanswers, hread, hsound, hvals, if_true]
  · rw [Area.describe_writeHeader ha l hlabel hlen hsound, hvals]

/-- Settles O48: the header written spells its values part by part, bytes spell values that R155 allows exactly when
they are sound and read as those values, and the check is the polynomial's, bit by bit. -/
theorem headerRoundTrip : Obligations.HeaderRoundTrip := ⟨headerReadsBack, headerLayout, checkIsCrc⟩

end Sys2Proof.Machine.FlashLaws
end
